-- ==== Sys2Proof/Word.lean ====
section
/-! DEFINITION. The machine's bit-vector types and the one slice of a value every file needs (00_scope.md R8, R12). -/

namespace Sys2Proof

/-- One limb and one register-port word: 32 bits (`LIMB_BITS`, R8). -/
abbrev Word := BitVec 32

/-- One byte of the host's view of `VM` (20_memory.md R73). -/
abbrev Byte := BitVec 8

/-- One 256-bit value: an element register, a `VM` slot, a field element (R8, R21, R71). -/
abbrev U256 := BitVec 256

/-- One 128-bit command (30_encoding.md R100). -/
abbrev Command := BitVec 128

/-- `limb(v,i) = (v >> 32i) & 0xFFFFFFFF`, limb 0 least significant (R12). -/
def limb (v : U256) (i : Nat) : Word := v.extractLsb' (32 * i) 32

end Sys2Proof
end

