-- ==== Sys2Proof/Config.lean ====
section
/-! DEFINITION. What an instance of the CORE fixes: the configuration `cfg` (10_state.md R30 to R36), the open
sizes and bus bases (00_scope.md R9), when a configuration is well formed (R10, R35), the reference instance
(R33, R36), and the free values: opaque constants without a body, of which nothing can be proved. -/

namespace Sys2Proof

/-- The constants of one instance (10_state.md R31; 92_eei_decisions.md section 9). Never written (R30, R344). -/
structure Cfg where
  /-- the modulus `N` -/
  n : U256
  /-- `NEG_N = 2^256 - N` -/
  negN : U256
  /-- `R2 = R^2 mod N` -/
  r2 : U256
  /-- `R3 = R^3 mod N` -/
  r3 : U256
  /-- `ONE_M = R mod N` -/
  oneM : U256
  /-- `NINV0 = (-N^-1) mod 2^32` -/
  ninv0 : Word
  /-- `ROOT[0..MAXLOG]` (R34) -/
  root : List U256
  /-- `VMSIZE`, slots of the vector memory (R9) -/
  vmSize : Nat
  /-- `JMAXLEN`, the longest vector of a job slot (R9) -/
  jMaxLen : Nat
  /-- `PMAXDEG`, the largest degree of a descriptor (R9) -/
  pMaxDeg : Nat
  /-- `CSR_BASE`, byte address of CSR 0 on the host's bus (R76) -/
  csrBase : Nat
  /-- `VM_BASE`, byte address of `VM` slot 0 on the host's bus (R76) -/
  vmBase : Nat
deriving DecidableEq, Repr

/-- How often 2 divides `m`, looking at most `fuel` times. -/
def twoAdic : Nat → Nat → Nat
  | 0, _ => 0
  | fuel + 1, m => if m % 2 = 0 then twoAdic fuel (m / 2) + 1 else 0

/-- `MAXLOG = min(62, S)`, `2^S` the largest power of two dividing `N - 1` (R9, R34). -/
def Cfg.maxLog (c : Cfg) : Nat := twoAdic 62 (c.n.toNat - 1)

/-- `ROOT[k]`; 0 beyond the table, as the host's window reads it (R43). -/
def Cfg.rootAt (c : Cfg) (k : Nat) : U256 := c.root.getD k 0

/-- How many CSR numbers the register window spans: `0x000` to `0x803`, the table of R43 (log entry 13). -/
def csrCount : Nat := 0x804

/-- A configuration is well formed (00_scope.md R10, with the root table of 10_state.md R35 and the constraints of
92_eei_decisions.md section 9). `root_zero`, `root_one` and `root_tower` are R35(c), R35(b) at `k = 1` and R35(d);
R35(a) and the rest of R35(b) follow from them. -/
structure Cfg.WellFormed (c : Cfg) : Prop where
  prime : Nat.Prime c.n.toNat
  odd : c.n.toNat % 2 = 1
  lt : c.n.toNat < 2 ^ 255
  negN : c.negN.toNat = 2 ^ 256 - c.n.toNat
  r2 : c.r2.toNat = 2 ^ 512 % c.n.toNat
  r3 : c.r3.toNat = 2 ^ 768 % c.n.toNat
  oneM : c.oneM.toNat = 2 ^ 256 % c.n.toNat
  ninv0 : (c.n.toNat * c.ninv0.toNat + 1) % 2 ^ 32 = 0
  root_length : c.root.length = c.maxLog + 1
  root_lt : ∀ k, k ≤ c.maxLog → (c.rootAt k).toNat < c.n.toNat
  root_zero : c.rootAt 0 = c.oneM
  root_one : (c.rootAt 1).toNat = c.n.toNat - c.oneM.toNat
  root_tower : ∀ k, k < c.maxLog →
    ((c.rootAt k).toNat * 2 ^ 256) % c.n.toNat = ((c.rootAt (k + 1)).toNat * (c.rootAt (k + 1)).toNat) % c.n.toNat
  vmSize : ∃ e, e ≤ 32 ∧ c.vmSize = 2 ^ e
  jMaxLen : ∃ e, c.jMaxLen = 2 ^ e
  pMaxDeg : ∃ e, c.pMaxDeg = 2 ^ e
  csrBase : c.csrBase % 4 = 0
  vmBase : c.vmBase % 4 = 0
  disjoint : c.csrBase + 4 * csrCount ≤ c.vmBase ∨ c.vmBase + 32 * c.vmSize ≤ c.csrBase

/-- The reference root table (10_state.md R36; 97_test_vectors_arith.md V20), entries 0 to 14. -/
def referenceRootsLow : List U256 :=
  [0x0e0a77c19a07df2f666ea36f7879462e36fc76959f60cd29ac96341c4ffffffb,
   0x2259d6b14729c0fa51e1a2470908122ef13771b2da58a367974bc177a0000006,
   0x2b377b3539c108cf8db1627974096c6e5f3f172cb14791207f753d979edcef8b,
   0x24407ce73f9ad9a9d976fd2b5d9429f72d60c6ff83cb85bef8ad4ae2b5ad7c3f,
   0x167c2951d2b63cfe8ce5bcef1bfb576a681b2ddc63d068ccf4b67d7c742f8f03,
   0x2b81fb59dc176d03e57584a8b0ad75cd28f9232ff7317df22214f7b1bf574c64,
   0x2690966be529aa3c53dceecd3f01534e8c9bbf349bf8fec28e9003e5818f61bf,
   0x007ab33f3632f04cb6ca27d50241e6de7bb2cc7c99537df00a79c43026817bb1,
   0x187bb1a6c52d25495e7566080286dd1992f255d9525d536ea2afb83f83a24acc,
   0x00f04c8db23d50820dbc7546409ac005642a9d127cdf6e0d9c533be722a423de,
   0x2348c4b965dfc08cb8063b6cc5a36518cf7ad4c2ae5e2a2c1ef4b3b4280c1184,
   0x28a98c2ecd9c1d77ff4d8a35ea9b2e0a0a03fb3c8df85a0748e72189ae4fcfb2,
   0x1b92f6b86194f846be9c7d66b3d555e868222a93d055f3ad1dd4522fb3ecdbd3,
   0x12ebe4109a806f4e59a1b62bd7dbc15f956cde6a44d30787894cdcbe79a04ed6,
   0x06be15d7fee394dab503922c8ca5a05a2e015d6311ab3116ba13a0c74d05eab8]

/-- The reference root table, entries 15 to 28. -/
def referenceRootsHigh : List U256 :=
  [0x1d461c35f1c406c7fcc95a68b2fe89cb7aa76b7140ceeaf2804ef7055bfdb854,
   0x1b821f01ee6ad556a134125174f75f436d3a3a920d1c24d147b3e75939397433,
   0x040fcafbd62dd59235358e27849e892c48322ae606308d41da05b8d81204dc7c,
   0x056d2ece39d1cd34d9398f59575058f133183a76a0bf86602566c62f09700b84,
   0x287c8390a688795e8424b45a3ace9ed4efebe603053edbbc049ea3b7e6a27a36,
   0x0d3b668781d6021a247bab46e4c8b0852669f68561808f9cda32d465aa8d931a,
   0x128ff3f025e139a63a8623bca053c069b11884e9658fe9a727ea2192f5322f3c,
   0x0a3893037882a3bc538dd257d5a7bb3d9e45f1abdf406b609b8e226ebcef1af2,
   0x0164a6c3c1a94ca8a40227793a5ebe110d7591c7590025b26e482404c09e9100,
   0x1652a7b269fb275cfb727ed745f3a7e9600e4a26cf52162cc722bd69d84fd030,
   0x1ac6e5b8084d2e39aa79abed81e7ad37552373494b8f9ac5400efaff575c07e2,
   0x28fc14c00c3a82b6e1ba4a6ed44582f773d462ca65935c9da0a29422c98a20fe,
   0x284517dd65e6ea1249004fdd52a6b17e4a3a78b5e4c003498759641480890267,
   0x1860ef942963f9e756452ac01eb203d8a22bf3742445ffd6636e735580d13d9c]

/-- The reference instance: constants of 10_state.md R33, roots of R36, and sizes of 95_test_vectors.md's conventions
(DESIGN CHOICE, log entry 2: the sizes and the bus bases are open). -/
def Cfg.reference : Cfg where
  n := 0x30644e72e131a029b85045b68181585d2833e84879b9709143e1f593f0000001
  negN := 0xcf9bb18d1ece5fd647afba497e7ea7a2d7cc17b786468f6ebc1e0a6c0fffffff
  r2 := 0x0216d0b17f4e44a58c49833d53bb808553fe3ab1e35c59e31bb8e645ae216da7
  r3 := 0x0cf8594b7fcc657c893cc664a19fcfed2a489cbe1cfbb6b85e94d8e1b4bf0040
  oneM := 0x0e0a77c19a07df2f666ea36f7879462e36fc76959f60cd29ac96341c4ffffffb
  ninv0 := 0xefffffff
  root := referenceRootsLow ++ referenceRootsHigh
  vmSize := 1024
  jMaxLen := 256
  pMaxDeg := 256
  csrBase := 0
  vmBase := 0x10000

namespace Config

/-- FREE VALUE (log entry 5, U6): the byte at byte address `a` of `VM` that nothing has written since reset number `epoch`. -/
opaque unwrittenByte : (epoch a : Nat) → Byte

/-- FREE VALUE (log entry 3, U1): the `n`-th element drawn because an element operand was not reduced; any 256-bit value. -/
opaque anyElement : (n : Nat) → U256

/-- FREE VALUE (log entry 6, R179, U5): the source of the `n`-th draw of `FRAND`; taken modulo `N` it is any member of `[0, N)`. -/
opaque randomElement : (n : Nat) → U256

/-- FREE VALUE (log entry 6, R180): the instance's `rand_seeded`; taken modulo `N` it is any function into `[0, N)`. -/
opaque seededElement : (c : Cfg) → (seed : BitVec 64) → U256

/-- FREE VALUE (log entry 7, R78, R360): whether the host's pending read of `STATUS` comes before the running command ends. -/
opaque statusReadFirst : (n : Nat) → Bool

end Config

end Sys2Proof
end

