-- ==== Sys2Proof/Machine/State.lean ====
section
/-! DEFINITION. The machine's state as plain data (10_state.md R20), why a step can stop, and the state after reset
(R45, 70_reset_and_hazards.md R340 to R343). -/

namespace Sys2Proof.Machine

/-- Whether a job-table entry is a Job or a MergeJob (10_state.md R39, `kind`). -/
inductive JobKind where
  | job
  | mergeJob
deriving DecidableEq, Repr

/-- An occupied job slot (R39): `side` is `false` for the even half and in a Job, `true` for the odd half. -/
structure JobEntry where
  kind : JobKind
  jobId : Word
  pathId : Word
  side : Bool
  data : List U256
deriving DecidableEq, Repr

/-- A valid polynomial descriptor (R40): `coef` is present exactly when `cv = 1`, `point` when `pv = 1`. -/
structure Poly where
  degree : Nat
  coef : Option (List U256)
  point : Option (List U256)
deriving DecidableEq, Repr

/-- The fault record (R28): `FCAUSE`, `FINFO0..2`, `FCMD0..3`. -/
structure FaultRecord where
  cause : Word
  info0 : Word
  info1 : Word
  info2 : Word
  cmd0 : Word
  cmd1 : Word
  cmd2 : Word
  cmd3 : Word
deriving DecidableEq, Repr

/-- What the outside can do to the CORE (00_scope.md R11, 10_state.md R44, R47, 20_memory.md R74 to R78). Log entry 1.
DESIGN CHOICE: R76 leaves the width of the host's address to the platform; a bus address is an unbounded number here, never
truncated or wrapped (log entry 23). -/
inductive HostMove where
  /-- the reset port `rst` is asserted and released (R340) -/
  | reset
  /-- the register port reads a CSR by number (R43) -/
  | regRead (csr : Nat)
  /-- the register port writes a CSR by number (R43, R44) -/
  | regWrite (csr : Nat) (data : Word)
  /-- the memory port reads a limb of a `VM` slot (R76) -/
  | memRead (slot limb : Nat)
  /-- the memory port writes a limb of a `VM` slot (R75, R76) -/
  | memWrite (slot limb : Nat) (data : Word)
  /-- a read of `width` bits at a byte address of the host's bus (R74, R76) -/
  | busRead (addr width : Nat)
  /-- a write of `width` bits at a byte address of the host's bus (R74, R76) -/
  | busWrite (addr width : Nat) (data : Word)
deriving DecidableEq, Repr

/-- The state of the CORE (10_state.md R20) with its constants `cfg` (R30) and the model's own fields
`host`, `rdata`, `draws`, `epoch` (log entries 1, 3, 5, 11). -/
structure State where
  /-- the instance's constants (R30, R31); never written -/
  cfg : Cfg
  /-- element registers `F[0..15]` (R21) -/
  f : Vector U256 16
  /-- product register `W` (R23) -/
  w : BitVec 512
  /-- flag `C` (R26) -/
  flagC : Bool
  /-- flag `S` (R26) -/
  flagS : Bool
  /-- flag `Z` (R26) -/
  flagZ : Bool
  /-- `CSEQ`, commands completed since reset (R25) -/
  cseq : Word
  /-- `STATUS.BUSY` (R27) -/
  busy : Bool
  /-- `STATUS.FAULT` (R27) -/
  fault : Bool
  /-- `STATUS.RINIT` (R27, R37) -/
  rinit : Bool
  /-- `FCAUSE`, `FINFO0..2`, `FCMD0..3` (R28) -/
  frec : FaultRecord
  /-- `RES0` (R29) -/
  res0 : Word
  /-- `RES1` (R29) -/
  res1 : Word
  /-- `RES2` (R29) -/
  res2 : Word
  /-- `VM`: the bytes written since reset, byte `j` of slot `e` at `32e + j`, addresses strictly rising (R42, 20_memory.md R73) -/
  vm : List Host.Cell
  /-- the job table `JT[0..63]` (R38) -/
  jt : Vector (Option JobEntry) 64
  /-- the polynomial descriptors `PD[0..7]` (R40) -/
  pd : Vector (Option Poly) 8
  /-- `CMD0` (R44) -/
  cmd0 : Word
  /-- `CMD1` (R44) -/
  cmd1 : Word
  /-- `CMD2` (R44) -/
  cmd2 : Word
  /-- the command captured when `CMD3` was written (20_memory.md R82, 10_state.md R46) -/
  current : Command
  /-- MODEL: the host's pending moves, oldest first -/
  host : List HostMove
  /-- MODEL: what the host port's read data last showed (R47) -/
  rdata : Word
  /-- MODEL: how many free values have been drawn -/
  draws : Nat
  /-- MODEL: how many resets there have been since the first -/
  epoch : Nat
deriving DecidableEq, Repr

/-- Why the machine stops with a fault. The faults of the CORE itself are no stop: they are taken as a next state
(60_exceptions.md R306). -/
inductive Fault where
  /-- Raised by a host bus or memory-port access to an address the CORE does not answer (93_implementation_defined.md U7:
  outside the two windows, or a `VM` slot that does not exist). Safe: the hardware goes on with no CORE state changed. -/
  | hostAddressAbsent (addr : Nat)
deriving DecidableEq, Repr

/-- Why a step has no meaning. -/
inductive Refusal where
  /-- Answered by `exec` for an instruction that has no meaning yet (none in this model). Safe. -/
  | notModelled (mnemonic : String)
  /-- Answered by a host bus access that is not an aligned 32-bit word (20_memory.md R74, 93_implementation_defined.md U7:
  "a model refuses one"). Safe: the hardware goes on with no CORE state changed. -/
  | hostAccessNotAWord (addr width : Nat)
deriving DecidableEq, Repr

/-- The reset values of every piece of state (10_state.md R45), with the modulus check of 70_reset_and_hazards.md R343. -/
def State.powerOn (c : Cfg) : State where
  cfg := c
  f := Vector.replicate 16 0
  w := 0
  flagC := false
  flagS := false
  flagZ := false
  cseq := 0
  busy := false
  fault := decide (2 ^ 255 ≤ c.n.toNat)
  rinit := false
  frec :=
    { cause := if 2 ^ 255 ≤ c.n.toNat then 6 else 0
      info0 := if 2 ^ 255 ≤ c.n.toNat then limb c.n 7 else 0
      info1 := 0
      info2 := 0
      cmd0 := 0
      cmd1 := 0
      cmd2 := 0
      cmd3 := 0 }
  res0 := 0
  res1 := 0
  res2 := 0
  vm := []
  jt := Vector.replicate 64 none
  pd := Vector.replicate 8 none
  cmd0 := 0
  cmd1 := 0
  cmd2 := 0
  current := 0
  host := []
  rdata := 0
  draws := 0
  epoch := 0

/-- The machine right after reset: the reference instance (10_state.md R33, R36), nothing pending from the host. -/
def State.reset : State := State.powerOn Cfg.reference

end Sys2Proof.Machine
end

