-- ==== Sys2Proof/Machine/Words.lean ====
section
/-! DEFINITION. Limbs, bytes and powers of two: the conversions the shared operations use (00_scope.md R12, 20_memory.md R73). -/

namespace Sys2Proof.Machine

/-- The eight limbs of a value as numbers, limb 0 first (R12). -/
def limbsOf (v : U256) : List Nat := (List.range 8).map fun i => (limb v i).toNat

/-- The number whose limbs these are, limb 0 first: `Σ limb(i) · 2^(32i)` (R12). -/
def natOfLimbs : List Nat → Nat
  | [] => 0
  | l :: ls => l + 2 ^ 32 * natOfLimbs ls

/-- The 32 bytes of a value, least significant first (20_memory.md R73). -/
def bytesOf (v : U256) : List Byte := (List.range 32).map fun j => v.extractLsb' (8 * j) 8

/-- The 4 bytes of a limb, least significant first (20_memory.md R73). -/
def limbBytes (v : Word) : List Byte := (List.range 4).map fun j => v.extractLsb' (8 * j) 8

/-- The number whose bytes these are, least significant first. -/
def natOfBytes : List Byte → Nat
  | [] => 0
  | b :: bs => b.toNat + 256 * natOfBytes bs

/-- `popcount(n) = 1`: `n` is a power of two (R12). -/
def isPow2 (n : Nat) : Bool := n == 2 ^ n.log2

/-- The least power of two that is at least `max(n, 1)` (45_polynomial.md R263). -/
def ceilPow2 (n : Nat) : Nat := if n ≤ 1 then 1 else if isPow2 n then n else 2 ^ (n.log2 + 1)

/-- A number as a 32-bit register holds it. -/
def word (n : Nat) : Word := BitVec.ofNat 32 n

/-- The 64-bit operand `Y ‖ X` (30_encoding.md R105). -/
def operand64 (x y : Word) : BitVec 64 := y ++ x

end Sys2Proof.Machine
end

