-- ==== Sys2Proof/Syntax.lean ====
section
/-! DEFINITION. The commands: one constructor per row of spec/opcode_table.json (30_encoding.md R109), operands in the
order of R109's "fields" column, each the unsigned field of the command word (R101). -/

namespace Sys2Proof

/-- An index field `d`, `a` or `b` used as an element register (R103). -/
abbrev RegIdx := BitVec 8

/-- An index field used as a job slot (R104). -/
abbrev JobIdx := BitVec 8

/-- An index field used as a polynomial descriptor (R104). -/
abbrev PolyIdx := BitVec 8

/-- The 55 commands. `x` and `y` of `frands` and `froot` are the low and the high word of the 64-bit operand (R105). -/
inductive Instr where
  | nop
  | lde (fd : RegIdx) (addr : Word)
  | ste (fa : RegIdx) (addr : Word)
  | ldi (fd : RegIdx) (imm : Word)
  | rdw (fd : RegIdx) (half : Byte)
  | uclr (fd : RegIdx)
  | umov (fd fa : RegIdx)
  | uadd (fd fa fb : RegIdx)
  | usub (fd fa fb : RegIdx)
  | uneg (fd fa : RegIdx)
  | umul256 (fd fa fb : RegIdx)
  | umul512 (fa fb : RegIdx)
  | ueq (fa fb : RegIdx)
  | monpro (fd fa fb : RegIdx)
  | monadd (fd fa fb : RegIdx)
  | monsub (fd fa fb : RegIdx)
  | tomont (fd fa : RegIdx)
  | frommont (fd fa : RegIdx)
  | fzero (fd : RegIdx)
  | fone (fd : RegIdx)
  | fsqr (fd fa : RegIdx)
  | fneg (fd fa : RegIdx)
  | finv (fd fa : RegIdx)
  | frand (fd : RegIdx)
  | frands (fd : RegIdx) (x y : Word)
  | froot (fd : RegIdx) (x y : Word)
  | ffromcan (fd fa : RegIdx)
  | ftocan (fd fa : RegIdx)
  | feq (fa fb : RegIdx)
  | fisz (fa : RegIdx)
  | fftrec (src dst len : Word)
  | fftr2 (fw : RegIdx) (src dst len : Word)
  | fft4 (logRows logCols : Byte) (src dst len : Word)
  | ifft (src dst len : Word)
  | jnew (js : JobIdx) (src len jobId : Word)
  | jfork (jd js : JobIdx) (target : Word)
  | jfft (js : JobIdx)
  | jmerge (js jo : JobIdx)
  | jfind (jobId : Word)
  | jrun (jobId : Word)
  | jst (js : JobIdx) (dst : Word)
  | jfree (js : JobIdx)
  | jqry (js : JobIdx)
  | pnew (pd : PolyIdx) (src count : Word)
  | pnewp (pd : PolyIdx) (src len : Word)
  | pext (pd : PolyIdx) (newDegree : Word)
  | padd (pd pa pb : PolyIdx)
  | pmul (pd pa pb : PolyIdx)
  | peval (fd : RegIdx) (pa : PolyIdx) (fx : RegIdx)
  | pcoef (pd : PolyIdx)
  | ppoint (pd : PolyIdx)
  | pstc (pa : PolyIdx) (dst : Word)
  | pstp (pa : PolyIdx) (dst : Word)
  | pfree (pd : PolyIdx)
  | pqry (pa : PolyIdx)
deriving DecidableEq, Repr

end Sys2Proof
end

