-- ==== Sys2Proof/Machine/Ops.lean ====
section
/-! DEFINITION. The named operations over registers, memory, tables and free values, and taking a fault
(00_scope.md R13, 20_memory.md R72, 60_exceptions.md R301 to R307). -/

namespace Sys2Proof.Machine

/-! Taking a fault -/

/-- The fault causes (60_exceptions.md R301). -/
inductive Cause where
  | illegal
  | nPow2
  | pairKey
  | noPair
  /-- reserved: no command raises it (R313) -/
  | width
  /-- raised at reset only (R314) -/
  | modulus
  | rootOrder
  | degree
  | range
  | vmBounds
  | jobState
  | capacity
  | shape
  | forkSize
  | polyState
deriving DecidableEq, Repr

/-- The cause codes (R301). -/
def Cause.code : Cause → Word
  | .illegal => 1
  | .nPow2 => 2
  | .pairKey => 3
  | .noPair => 4
  | .width => 5
  | .modulus => 6
  | .rootOrder => 7
  | .degree => 8
  | .range => 9
  | .vmBounds => 10
  | .jobState => 11
  | .capacity => 12
  | .shape => 13
  | .forkSize => 14
  | .polyState => 15

/-- `raise X(i0, i1, i2)`: a cause with its three information words (R302). -/
structure Trap where
  cause : Cause
  info0 : Word
  info1 : Word
  info2 : Word
deriving DecidableEq, Repr

/-- A trap from numbers, each truncated to 32 bits (R302). -/
def trap (cause : Cause) (i0 i1 i2 : Nat) : Trap := ⟨cause, word i0, word i1, word i2⟩

/-- Fault entry (R306): the record, `FAULT` and `BUSY`, and nothing else. -/
def raise (t : Trap) (s : State) : State :=
  { s with
    fault := true
    busy := false
    frec :=
      { cause := t.cause.code
        info0 := t.info0
        info1 := t.info1
        info2 := t.info2
        cmd0 := s.current.extractLsb' 0 32
        cmd1 := s.current.extractLsb' 32 32
        cmd2 := s.current.extractLsb' 64 32
        cmd3 := s.current.extractLsb' 96 32 } }

/-- A command completes: `CSEQ` counts it modulo 2^32 and `BUSY` falls (10_state.md R25, R27). -/
def complete (s : State) : State := { s with cseq := s.cseq + 1, busy := false }

/-- What a command does, given its body over `s`: completion of the body's state, or the fault taken at `s`, of which
nothing else has changed (R306). -/
def settle (s : State) : Except Trap State → Host.Outcome State Fault Refusal
  | .ok t => .next (complete t)
  | .error t => .next (raise t s)

/-! Element registers, `W`, results, tables -/

/-- `F[i]` (00_scope.md R13). -/
def State.getF (s : State) (r : RegIdx) : U256 := s.f[r.toNat]?.getD 0

/-- `F[i] <- v` (R13). -/
def State.setF (s : State) (r : RegIdx) (v : U256) : State := { s with f := s.f.setIfInBounds r.toNat v }

/-- `W <- v` (R13). -/
def State.setW (s : State) (v : BitVec 512) : State := { s with w := v }

/-- `RES0..2 <- ...` (10_state.md R29). -/
def State.setRes (s : State) (r0 r1 r2 : Word) : State := { s with res0 := r0, res1 := r1, res2 := r2 }

/-- `STATUS.RINIT <- 1` (R37). -/
def State.setRinit (s : State) : State := { s with rinit := true }

/-- `JT[j]`, `none` when the slot is empty (R38). -/
def State.getJob (s : State) (j : JobIdx) : Option JobEntry := s.jt[j.toNat]?.getD none

/-- `JT[j] <- e`, or `JT[j] <- empty`. -/
def State.setJob (s : State) (j : JobIdx) (e : Option JobEntry) : State := { s with jt := s.jt.setIfInBounds j.toNat e }

/-- `PD[p]`, `none` when the descriptor is invalid (R40). -/
def State.getPoly (s : State) (p : PolyIdx) : Option Poly := s.pd[p.toNat]?.getD none

/-- `PD[p] <- e`, or `PD[p] <- invalid`. -/
def State.setPoly (s : State) (p : PolyIdx) (e : Option Poly) : State := { s with pd := s.pd.setIfInBounds p.toNat e }

/-! Vector memory -/

/-- The written bytes of `VM`, by byte address. -/
abbrev Memory := List Host.Cell

/-- The canonical form: addresses strictly rising. A listed byte is one written since reset; an unlisted byte reads as a
free value, which no written byte is known to equal (log entry 5). -/
def Memory.wf : Memory → Bool
  | [] => true
  | [_] => true
  | a :: b :: m => decide (a.1 < b.1) && Memory.wf (b :: m)

/-- The byte written at address `a`, if one was. -/
def Memory.byte? (m : Memory) (a : Nat) : Option Byte := (m.find? fun c => c.1 == a).map (·.2)

/-- The cells with addresses in `[lo, hi)`. -/
def Memory.window (m : Memory) (lo hi : Nat) : Memory := m.filter fun c => decide (lo ≤ c.1) && decide (c.1 < hi)

/-- Consecutive cells from address `a` up. -/
def cellsFrom : Nat → List Byte → Memory
  | _, [] => []
  | a, b :: bs => (a, b) :: cellsFrom (a + 1) bs

/-- Write consecutive bytes from address `a` up. -/
def Memory.store (m : Memory) (a : Nat) (bs : List Byte) : Memory :=
  (m.filter fun c => decide (c.1 < a)) ++ cellsFrom a bs ++ m.filter fun c => decide (a + bs.length ≤ c.1)

/-- The byte at byte address `a` of `VM`: the one written, else the unspecified reset content (93_implementation_defined.md U6). -/
def State.vmByteIn (s : State) (m : Memory) (a : Nat) : Byte := (Memory.byte? m a).getD (Config.unwrittenByte s.epoch a)

/-- The byte at byte address `a` of `VM` (20_memory.md R73). -/
def State.vmByte (s : State) (a : Nat) : Byte := s.vmByteIn s.vm a

/-- `count` bytes from byte address `a` up, as a number, least significant byte first (20_memory.md R73). -/
def State.vmNat (s : State) (a count : Nat) : Nat :=
  natOfBytes ((List.range count).map fun j => s.vmByteIn (Memory.window s.vm a (a + count)) (a + j))

/-- `VM[e]` (20_memory.md R71, R73). -/
def State.vmSlot (s : State) (e : Nat) : U256 := BitVec.ofNat 256 (s.vmNat (32 * e) 32)

/-- Limb `i` of `VM` slot `e` (20_memory.md R76). -/
def State.vmLimb (s : State) (e i : Nat) : Word := BitVec.ofNat 32 (s.vmNat (32 * e + 4 * i) 4)

/-- `addr + n <= VMSIZE`, computed in the integers (20_memory.md R72). -/
def State.vmFits (s : State) (addr n : Nat) : Bool := decide (addr + n ≤ s.cfg.vmSize)

/-- `MemRead(addr, n)` after its check (20_memory.md R72). -/
def State.memRead (s : State) (addr n : Nat) : List U256 := (List.range n).map fun i => s.vmSlot (addr + i)

/-- `MemWrite(addr, n, vs)` after its check (20_memory.md R72). -/
def State.memWrite (s : State) (addr : Nat) (vs : List U256) : State :=
  { s with vm := Memory.store s.vm (32 * addr) (vs.flatMap bytesOf) }

/-- Store one limb of a slot (20_memory.md R75, R76). -/
def State.writeLimb (s : State) (e i : Nat) (v : Word) : State :=
  { s with vm := Memory.store s.vm (32 * e + 4 * i) (limbBytes v) }

/-! Free values (93_implementation_defined.md U1, U5) -/

/-- `draws <- draws + k`. -/
def State.drawn (s : State) (k : Nat) : State := { s with draws := s.draws + k }

/-- A vector a command writes: the computed one when every element operand was reduced, else one free value for each
element (U1), counted from `n`; with the next count. -/
def openVec (reduced : Bool) (v : List U256) (n : Nat) : List U256 × Nat :=
  if reduced then (v, n) else ((List.range v.length).map fun i => Config.anyElement (n + i), n + v.length)

/-- Write one element: the computed value when every element operand was reduced, else a free value (U1). -/
def State.putElem (s : State) (r : RegIdx) (reduced : Bool) (v : U256) : State :=
  if reduced then s.setF r v else (s.setF r (Config.anyElement s.draws)).drawn 1

/-- Write a vector to `VM` from slot `addr` up: the computed one, or free values (U1). -/
def State.putVec (s : State) (addr : Nat) (reduced : Bool) (v : List U256) : State :=
  { (s.memWrite addr (openVec reduced v s.draws).1) with draws := (openVec reduced v s.draws).2 }

end Sys2Proof.Machine
end

