-- ==== Sys2Proof/Machine/Operands.lean ====
section
/-! DEFINITION. Operand forms and the checks commands make on their operands (30_encoding.md R103 to R105,
43_fft.md R202, 93_implementation_defined.md U1). -/

namespace Sys2Proof.Machine

/-- A value in `[0, N)` (00_scope.md R14, "reduced"). -/
def isReduced (c : Cfg) (v : U256) : Bool := decide (v.toNat < c.n.toNat)

/-- Every element of a vector is reduced. -/
def allReduced (c : Cfg) (vs : List U256) : Bool := vs.all (isReduced c)

/-- `zext_256(X)`: an immediate is the unsigned integer in its field (R105). -/
def zext256 (imm : Word) : U256 := imm.setWidth 256

/-- The half of `W` that `half` selects (46_data_movement_system.md R294). -/
def halfOf (w : BitVec 512) (half : Byte) : U256 := if half = 0 then w.extractLsb' 0 256 else w.extractLsb' 256 256

/-- `raise VMBOUNDS(addr, n, 0)` when the range leaves the memory (20_memory.md R72). -/
def boundsTrap (s : State) (addr n : Nat) : Option Trap :=
  if s.vmFits addr n then none else some (trap .vmBounds addr n 0)

/-- `FFT4` only: `raise SHAPE(2^a, 2^b, len)` when `2^a · 2^b ≠ len` (43_fft.md R202). -/
def shapeTrap (shape : Option (Nat × Nat)) (len : Nat) : Option Trap :=
  match shape with
  | none => none
  | some (a, b) => if 2 ^ a * 2 ^ b = len then none else some (trap .shape (2 ^ a) (2 ^ b) len)

/-- The checks of 43_fft.md R202 in their order; `shape` is `FFT4`'s `(a, b)`. -/
def transformTrap (s : State) (op : Nat) (src dst len : Word) (shape : Option (Nat × Nat)) : Option Trap :=
  if !isPow2 len.toNat then some (trap .nPow2 len.toNat op 0)
  else if s.cfg.maxLog < len.toNat.log2 then some (trap .rootOrder len.toNat 0 0)
  else (shapeTrap shape len.toNat).or ((boundsTrap s src.toNat len.toNat).or (boundsTrap s dst.toNat len.toNat))

/-- A transform of a vector of length `len` would need a root the table does not have (60_exceptions.md R301, cause 7). -/
def rootTrap (c : Cfg) (len : Nat) : Option Trap :=
  if c.maxLog < len.log2 then some (trap .rootOrder len 0 0) else none

/-- A command's body behind its checks: the first trap, else the effect (60_exceptions.md R303, R306). -/
def guarded (t : Option Trap) (effect : State) : Except Trap State :=
  match t with
  | some t => .error t
  | none => .ok effect

end Sys2Proof.Machine
end

