-- ==== Sys2Proof/Machine/DataMove.lean ====
section
/-! DEFINITION. Data movement and system commands, family 0x0_ (46_data_movement_system.md). -/

namespace Sys2Proof.Machine

/-- `NOP` (R290). -/
def execNop (s : State) : Host.Outcome State Fault Refusal := settle s (.ok s)

/-- `LDE fd, addr` (R291). -/
def execLde (fd : RegIdx) (addr : Word) (s : State) : Host.Outcome State Fault Refusal :=
  settle s (guarded (boundsTrap s addr.toNat 1) (s.setF fd (s.vmSlot addr.toNat)))

/-- `STE fa, addr` (R292). -/
def execSte (fa : RegIdx) (addr : Word) (s : State) : Host.Outcome State Fault Refusal :=
  settle s (guarded (boundsTrap s addr.toNat 1) (s.memWrite addr.toNat [s.getF fa]))

/-- `LDI fd, imm` (R293). -/
def execLdi (fd : RegIdx) (imm : Word) (s : State) : Host.Outcome State Fault Refusal :=
  settle s (.ok (s.setF fd (zext256 imm)))

/-- `RDW fd, half` (R294). -/
def execRdw (fd : RegIdx) (half : Byte) (s : State) : Host.Outcome State Fault Refusal :=
  settle s (.ok (s.setF fd (halfOf s.w half)))

end Sys2Proof.Machine
end

