-- ==== Sys2Proof/Machine/Arith.lean ====
section
/-! DEFINITION. The Montgomery engine's functions (41_montgomery.md), the schoolbook product (40_fixed_width_uint.md R136)
and the inverse unit (42_field_element.md R177, R178). -/

namespace Sys2Proof.Machine

/-- One pass over the limbs: `t[j] + x[j] · b + c`, low 32 bits kept, the rest carried (R136, R152 steps 1 and 3). Answers
the new limbs and the carry out. -/
def macPass : List Nat → List Nat → Nat → Nat → List Nat × Nat
  | t :: ts, x :: xs, b, c =>
    let s := t + x * b + c
    let rest := macPass ts xs b (s / 2 ^ 32)
    (s % 2 ^ 32 :: rest.1, rest.2)
  | _, _, _, c => ([], c)

/-! The schoolbook product (R136) -/

/-- The rows of the schoolbook loop from row `i` on: `pl[i..i+7]` take the pass over `xl` by `yl[i]`, and the carry is
`pl[i+8]`; the lowest limb of a row is final. -/
def schoolbookRows (xl : List Nat) : List Nat → List Nat → List Nat
  | [], acc => acc
  | y :: ys, acc =>
    let row := macPass acc xl y 0
    row.1.headD 0 :: schoolbookRows xl ys (row.1.tail ++ [row.2])

/-- The 16 result limbs of the schoolbook loop (R136). -/
def schoolbook (x y : U256) : List Nat := schoolbookRows (limbsOf x) (limbsOf y) (List.replicate 8 0)

/-! Montgomery multiplication (R151 to R156) -/

/-- The 9-limb accumulator `t[0..8]` (10_state.md R24): limbs 0 to 7 and limb 8. -/
structure Acc where
  low : List Nat
  top : Nat
deriving DecidableEq, Repr

/-- The accumulator at the start of every `MonPro`. -/
def Acc.zero : Acc := ⟨List.replicate 8 0, 0⟩

/-- `Σ t[j] · 2^(32j)`, `j = 0..8`. -/
def Acc.value (t : Acc) : Nat := natOfLimbs t.low + t.top * 2 ^ 256

/-- Step (1) of a round: accumulate `a · b[i]` (R152). -/
def cioAccumulate (al : List Nat) (t : Acc) (bi : Nat) : Acc :=
  let pass := macPass t.low al bi 0
  ⟨pass.1, t.top + pass.2⟩

/-- Step (2): the quotient limb `m = (t[0] · NINV0) mod 2^32` (R152). -/
def cioQuotient (c : Cfg) (t : Acc) : Nat := t.low.headD 0 * c.ninv0.toNat % 2 ^ 32

/-- Step (3): add `m · N` and shift down one limb; limb 0 of the sum is 0 and is dropped (R152). -/
def cioReduce (c : Cfg) (t : Acc) : Acc :=
  let pass := macPass t.low (limbsOf c.n) (cioQuotient c t) 0
  let s := t.top + pass.2
  ⟨pass.1.tail ++ [s % 2 ^ 32], s / 2 ^ 32⟩

/-- One round, for one limb of `b` (R152). -/
def cioRound (c : Cfg) (al : List Nat) (t : Acc) (bi : Nat) : Acc := cioReduce c (cioAccumulate al t bi)

/-- The accumulator after the 8 rounds, one for each limb of `b` (R152, R156). -/
def cios (c : Cfg) (a b : U256) : Acc := (limbsOf b).foldl (cioRound c (limbsOf a)) Acc.zero

/-- `MonPro(a, b)` by the CIOS algorithm with the final correction at `T >= N` (R152, R155). Specified for reduced
operands only; a command with another operand takes a free value instead (U1). -/
def monPro (c : Cfg) (a b : U256) : U256 :=
  let t := (cios c a b).value
  BitVec.ofNat 256 (if c.n.toNat ≤ t then t - c.n.toNat else t)

/-- `MonAdd(a, b)` by the steps of R157. -/
def monAdd (c : Cfg) (a b : U256) : U256 :=
  let s := a + b
  let u := s + c.negN
  if u.getLsbD 255 then s else u

/-- `MonSub(a, b)` by the steps of R159. -/
def monSub (c : Cfg) (a b : U256) : U256 :=
  let d := a - b
  if d.getLsbD 255 then d + c.n else d

/-! The inverse unit (R177, R178) -/

/-- `b^e mod m` by squaring, for `e < 2^fuel`. -/
def powMod (m : Nat) : Nat → Nat → Nat → Nat
  | 0, _, _ => 1 % m
  | fuel + 1, b, e =>
    if e = 0 then 1 % m
    else
      let r := powMod m fuel (b * b % m) (e / 2)
      if e % 2 = 1 then b * r % m else r

/-- `a^-1 mod N` of a plain integer: `a^(N-2) mod N`, the one inverse modulo a prime; which routine is used is not
observable (R178; log entry 18). -/
def modInverse (c : Cfg) (a : Nat) : U256 := BitVec.ofNat 256 (powMod c.n.toNat ((c.n.toNat - 2).log2 + 1) (a % c.n.toNat) (c.n.toNat - 2))

/-- The field's `inverse()`: zero for zero, else `MonPro(a^-1 mod N, R3)` (R177, R178). -/
def fieldInverse (c : Cfg) (a : U256) : U256 := if a = 0 then 0 else monPro c (modInverse c a.toNat) c.r3

/-- `m(n^-1)`, the Montgomery form of the field inverse of a length (43_fft.md R212). -/
def lengthInverse (c : Cfg) (n : Nat) : U256 := monPro c (modInverse c n) c.r2

/-- The field power `x^e`: `x^0 = ONE`, by squaring, for `e < 2^fuel` (43_fft.md R203: every way of computing it gives the
same reduced element). -/
def fieldPowFuel (c : Cfg) : Nat → U256 → Nat → U256
  | 0, _, _ => c.oneM
  | fuel + 1, x, e =>
    if e = 0 then c.oneM
    else
      let r := fieldPowFuel c fuel (monPro c x x) (e / 2)
      if e % 2 = 1 then monPro c x r else r

/-- The field power `x^e`. -/
def fieldPow (c : Cfg) (x : U256) (e : Nat) : U256 := fieldPowFuel c (e.log2 + 1) x e

end Sys2Proof.Machine
end

