-- ==== Sys2Proof/Machine/Transform.lean ====
section
/-! DEFINITION. The transforms as functions on lists of field elements (43_fft.md R201 to R213). -/

namespace Sys2Proof.Machine

/-- `v[0::2]`, the even-indexed elements. -/
def evens : List U256 → List U256
  | [] => []
  | [a] => [a]
  | a :: _ :: v => a :: evens v

/-- `v[1::2]`, the odd-indexed elements. -/
def odds : List U256 → List U256
  | [] => []
  | [_] => []
  | _ :: b :: v => b :: odds v

/-- `p, p·w, p·w², ...`, `count` elements (R203: `ω^(i+1) = ω^i · ω`). -/
def powersFrom (c : Cfg) (w : U256) : Nat → U256 → List U256
  | 0, _ => []
  | count + 1, p => p :: powersFrom c w count (monPro c p w)

/-- The butterflies of one block: `y0[i] + w^i · y1[i]`, then `y0[i] - w^i · y1[i]` (R203, R207, 44_job_merge.md R239). -/
def combine (c : Cfg) (w : U256) (y0 y1 : List U256) : List U256 :=
  let t := List.zipWith (monPro c) (powersFrom c w y1.length c.oneM) y1
  List.zipWith (monAdd c) y0 t ++ List.zipWith (monSub c) y0 t

/-- `RecFFT(v)` for a list of length `2^k` (R203). -/
def recFft (c : Cfg) : Nat → List U256 → List U256
  | 0, v => v
  | k + 1, v => combine c (c.rootAt (k + 1)) (recFft c k (evens v)) (recFft c k (odds v))

/-- The defining sum of the forward transform, element `i`, with any root: `Σ_j v[j] · w^(i·j)` (R201). -/
def dftSum (c : Cfg) (w : U256) (v : List U256) (i : Nat) : U256 :=
  ((List.range v.length).map fun j => monPro c (v.getD j 0) (fieldPow c w (i * j))).foldl (monAdd c) 0

/-- `FFT(v)` as R201 defines it. -/
def dft (c : Cfg) (k : Nat) (v : List U256) : List U256 :=
  (List.range (2 ^ k)).map (dftSum c (c.rootAt k) v)

/-- `rev_k(i)`: the `k`-bit number `i` read backwards (R206). -/
def bitReverse : Nat → Nat → Nat
  | 0, _ => 0
  | k + 1, i => i % 2 * 2 ^ k + bitReverse k (i / 2)

/-- The bit-reverse permutation `a[i] = v[rev_k(i)]` (R206). -/
def bitReversePermute (k : Nat) (v : List U256) : List U256 :=
  (List.range (2 ^ k)).map fun i => v.getD (bitReverse k i) 0

/-- The blocks of one stage, each of size `2h`, joined with stage root `w` (R207). -/
def stageBlocks (c : Cfg) (w : U256) (h : Nat) : Nat → List U256 → List U256
  | 0, _ => []
  | count + 1, v => combine c w (v.take h) ((v.drop h).take h) ++ stageBlocks c w h count (v.drop (2 * h))

/-- Stage `s` of a transform of length `2^k`: blocks of size `2^s`, stage root `w^(n/2^s)` (R207). -/
def radix2Stage (c : Cfg) (k : Nat) (w : U256) (v : List U256) (s : Nat) : List U256 :=
  stageBlocks c (fieldPow c w (2 ^ (k - s))) (2 ^ (s - 1)) (2 ^ (k - s)) v

/-- `R2FFT(v, w)`: bit reversal, then stages `1..k` (R207). -/
def radix2Fft (c : Cfg) (k : Nat) (w : U256) (v : List U256) : List U256 :=
  ((List.range k).map (· + 1)).foldl (radix2Stage c k w) (bitReversePermute k v)

/-- Step 2 and 3 of the four-step transform for one column: the column's transform, each element times its twiddle
`wn^(k1·col)` (R209). -/
def fourStepColumn (c : Cfg) (a b : Nat) (v : List U256) (col : Nat) : List U256 :=
  let column := (List.range (2 ^ a)).map fun r => v.getD (r * 2 ^ b + col) 0
  List.zipWith (fun k1 y => monPro c y (fieldPow c (c.rootAt (a + b)) (k1 * col))) (List.range (2 ^ a)) (recFft c a column)

/-- Step 4 for one row `k1` of the twiddled matrix, given its columns (R209). -/
def fourStepRow (c : Cfg) (b : Nat) (columns : List (List U256)) (k1 : Nat) : List U256 :=
  recFft c b (columns.map fun col => col.getD k1 0)

/-- `FourStep(v, 2^a, 2^b)`: output index `i = k1 + rows·k2` takes element `k2` of row `k1` (R209). -/
def fourStep (c : Cfg) (a b : Nat) (v : List U256) : List U256 :=
  let columns := (List.range (2 ^ b)).map (fourStepColumn c a b v)
  let rows := (List.range (2 ^ a)).map (fourStepRow c b columns)
  (List.range (2 ^ (a + b))).map fun i => (rows.getD (i % 2 ^ a) []).getD (i / 2 ^ a) 0

/-- `IFFT(v)[j] = n^-1 · FFT(v)[(n - j) mod n]` for a list of length `n = 2^k` (R212). -/
def invFft (c : Cfg) (k : Nat) (v : List U256) : List U256 :=
  let y := recFft c k v
  (List.range (2 ^ k)).map fun j => monPro c (lengthInverse c (2 ^ k)) (y.getD ((2 ^ k - j) % 2 ^ k) 0)

end Sys2Proof.Machine
end

