-- ==== Sys2Proof/Machine/Fft.lean ====
section
/-! DEFINITION. FFT commands, family 0x4_ (43_fft.md): checks, whole input read, whole output written, `RINIT` set (R200). -/

namespace Sys2Proof.Machine

/-- The effect of a transform command after its checks: `MemWrite(dst, len, fn(MemRead(src, len)))`, `RINIT <- 1` (R200).
`extra` says that the other element operands are reduced. -/
def transformEffect (s : State) (src dst len : Word) (extra : Bool) (fn : List U256 → List U256) : State :=
  let v := s.memRead src.toNat len.toNat
  (s.putVec dst.toNat (extra && allReduced s.cfg v) (fn v)).setRinit

/-- `FFTREC src, dst, len` (R205). -/
def execFftrec (src dst len : Word) (s : State) : Host.Outcome State Fault Refusal :=
  settle s (guarded (transformTrap s 0x40 src dst len none)
    (transformEffect s src dst len true (recFft s.cfg len.toNat.log2)))

/-- `FFTR2 fw, src, dst, len`: the root is the register's, whatever it is; of length 1 it is not used (R208, log entry 16). -/
def execFftr2 (fw : RegIdx) (src dst len : Word) (s : State) : Host.Outcome State Fault Refusal :=
  settle s (guarded (transformTrap s 0x41 src dst len none)
    (transformEffect s src dst len (len == 1 || isReduced s.cfg (s.getF fw)) (radix2Fft s.cfg len.toNat.log2 (s.getF fw))))

/-- `FFT4 rows, cols, src, dst, len` (R211). -/
def execFft4 (logRows logCols : Byte) (src dst len : Word) (s : State) : Host.Outcome State Fault Refusal :=
  settle s (guarded (transformTrap s 0x42 src dst len (some (logRows.toNat, logCols.toNat)))
    (transformEffect s src dst len true (fourStep s.cfg logRows.toNat logCols.toNat)))

/-- `IFFT src, dst, len` (R213). -/
def execIfft (src dst len : Word) (s : State) : Host.Outcome State Fault Refusal :=
  settle s (guarded (transformTrap s 0x43 src dst len none)
    (transformEffect s src dst len true (invFft s.cfg len.toNat.log2)))

end Sys2Proof.Machine
end

