-- ==== Sys2Proof/Machine/Flags.lean ====
section
/-! DEFINITION. Every flag computation (10_state.md R26; 40_fixed_width_uint.md R133 to R135, R139). -/

namespace Sys2Proof.Machine

/-- `C` of `UADD`: the carry out of the 256-bit addition (R133). -/
def carryOut (a b : U256) : Bool := decide (2 ^ 256 ≤ a.toNat + b.toNat)

/-- `C` of `USUB`: the borrow out, 1 when the subtrahend is the larger (R134). -/
def borrowOut (a b : U256) : Bool := decide (a.toNat < b.toNat)

/-- `S`: bit 255 of the result (R26). -/
def signBit (v : U256) : Bool := v.getLsbD 255

/-- `Z` of `UEQ` and `FEQ`: all eight limbs equal (R139, R185). -/
def equalLimbs (a b : U256) : Bool := decide (a = b)

/-- `Z` of `FISZ` (R182). -/
def isZeroElem (a : U256) : Bool := decide (a = 0)

/-- `C <- b`. -/
def State.setC (s : State) (b : Bool) : State := { s with flagC := b }

/-- `S <- b`. -/
def State.setS (s : State) (b : Bool) : State := { s with flagS := b }

/-- `Z <- b`. -/
def State.setZ (s : State) (b : Bool) : State := { s with flagZ := b }

end Sys2Proof.Machine
end

