-- ==== Sys2Proof/Machine/Montgomery.lean ====
section
/-! DEFINITION. MontgomeryEngine commands, family 0x2_ (41_montgomery.md). An unreduced operand gives a free value in `fd`
(R150, 93_implementation_defined.md U1, log entry 3). -/

namespace Sys2Proof.Machine

/-- A binary element operation: the result for reduced operands (R153, R158, R160). -/
def binaryElem (op : Cfg → U256 → U256 → U256) (fd fa fb : RegIdx) (s : State) : State :=
  s.putElem fd (isReduced s.cfg (s.getF fa) && isReduced s.cfg (s.getF fb)) (op s.cfg (s.getF fa) (s.getF fb))

/-- A unary element operation: the result for a reduced operand. -/
def unaryElem (op : Cfg → U256 → U256) (fd fa : RegIdx) (s : State) : State :=
  s.putElem fd (isReduced s.cfg (s.getF fa)) (op s.cfg (s.getF fa))

/-- `MONPRO fd, fa, fb` (R153). -/
def execMonpro (fd fa fb : RegIdx) (s : State) : Host.Outcome State Fault Refusal := settle s (.ok (binaryElem monPro fd fa fb s))

/-- `MONADD fd, fa, fb` (R158). -/
def execMonadd (fd fa fb : RegIdx) (s : State) : Host.Outcome State Fault Refusal := settle s (.ok (binaryElem monAdd fd fa fb s))

/-- `MONSUB fd, fa, fb` (R160). -/
def execMonsub (fd fa fb : RegIdx) (s : State) : Host.Outcome State Fault Refusal := settle s (.ok (binaryElem monSub fd fa fb s))

/-- `to_mont(a) = MonPro(a, R2)` (R161). -/
def toMont (c : Cfg) (a : U256) : U256 := monPro c a c.r2

/-- `from_mont(a) = MonPro(a, 1)`, the plain integer one (R162). -/
def fromMont (c : Cfg) (a : U256) : U256 := monPro c a 1

/-- `TOMONT fd, fa` (R161). -/
def execTomont (fd fa : RegIdx) (s : State) : Host.Outcome State Fault Refusal := settle s (.ok (unaryElem toMont fd fa s))

/-- `FROMMONT fd, fa` (R162). -/
def execFrommont (fd fa : RegIdx) (s : State) : Host.Outcome State Fault Refusal := settle s (.ok (unaryElem fromMont fd fa s))

end Sys2Proof.Machine
end

