-- ==== Sys2Proof/Machine/Field.lean ====
section
/-! DEFINITION. FieldElement commands, family 0x3_ (42_field_element.md). -/

namespace Sys2Proof.Machine

/-- `FZERO fd` (R171). -/
def execFzero (fd : RegIdx) (s : State) : Host.Outcome State Fault Refusal := settle s (.ok (s.setF fd 0))

/-- `FONE fd` (R172). -/
def execFone (fd : RegIdx) (s : State) : Host.Outcome State Fault Refusal := settle s (.ok (s.setF fd s.cfg.oneM))

/-- `FSQR fd, fa` (R175). -/
def execFsqr (fd fa : RegIdx) (s : State) : Host.Outcome State Fault Refusal :=
  settle s (.ok (unaryElem (fun c a => monPro c a a) fd fa s))

/-- `FNEG fd, fa`: `MonSub(0, a)` (R176). -/
def execFneg (fd fa : RegIdx) (s : State) : Host.Outcome State Fault Refusal :=
  settle s (.ok (unaryElem (fun c a => monSub c 0 a) fd fa s))

/-- `FINV fd, fa`: zero for zero, no fault (R177). -/
def execFinv (fd fa : RegIdx) (s : State) : Host.Outcome State Fault Refusal := settle s (.ok (unaryElem fieldInverse fd fa s))

/-- A free value brought into `[0, N)`; any member of it is reached. -/
def intoField (c : Cfg) (v : U256) : U256 := BitVec.ofNat 256 (v.toNat % c.n.toNat)

/-- `FRAND fd`: a fresh member of `[0, N)` (R179). -/
def execFrand (fd : RegIdx) (s : State) : Host.Outcome State Fault Refusal :=
  settle s (.ok ((s.setF fd (intoField s.cfg (Config.randomElement s.draws))).drawn 1))

/-- `FRANDS fd, seed`: the instance's `rand_seeded(seed)` (R180). -/
def execFrands (fd : RegIdx) (x y : Word) (s : State) : Host.Outcome State Fault Refusal :=
  settle s (.ok (s.setF fd (intoField s.cfg (Config.seededElement s.cfg (operand64 x y)))))

/-- The order is not a power of two, or the table has no root of that order (R181). -/
def rootLookupTrap (c : Cfg) (x y : Word) : Option Trap :=
  let order := (operand64 x y).toNat
  if !isPow2 order || decide (62 < order.log2) || decide (c.maxLog < order.log2) then some ⟨.rootOrder, x, y, 0⟩ else none

/-- `FROOT fd, order` (R181). -/
def execFroot (fd : RegIdx) (x y : Word) (s : State) : Host.Outcome State Fault Refusal :=
  settle s (guarded (rootLookupTrap s.cfg x y) ((s.setF fd (s.cfg.rootAt (operand64 x y).toNat.log2)).setRinit))

/-- `FFROMCAN fd, fa`: the checked import (R183). -/
def execFfromcan (fd fa : RegIdx) (s : State) : Host.Outcome State Fault Refusal :=
  let x := s.getF fa
  settle s (if isReduced s.cfg x then .ok (s.setF fd (toMont s.cfg x)) else .error ⟨.range, limb x 7, limb x 0, 0⟩)

/-- `FTOCAN fd, fa` (R184). -/
def execFtocan (fd fa : RegIdx) (s : State) : Host.Outcome State Fault Refusal := settle s (.ok (unaryElem fromMont fd fa s))

/-- `FEQ fa, fb`: the stored limbs, never converted, reduced or not (R185, log entry 4). -/
def execFeq (fa fb : RegIdx) (s : State) : Host.Outcome State Fault Refusal :=
  settle s (.ok (s.setZ (equalLimbs (s.getF fa) (s.getF fb))))

/-- `FISZ fa` (R182, log entry 4). -/
def execFisz (fa : RegIdx) (s : State) : Host.Outcome State Fault Refusal := settle s (.ok (s.setZ (isZeroElem (s.getF fa))))

end Sys2Proof.Machine
end

