-- ==== Sys2Proof/Machine/Jobs.lean ====
section
/-! DEFINITION. Job and MergeJob commands, family 0x5_ (44_job_merge.md). -/

namespace Sys2Proof.Machine

/-! The tree's functions -/

/-- The MergeJob tags of node `q`: its parent's number and its side; `(0, 0)` for the root (R231, R236, R239). -/
def parentTags (q : Word) : Word × Bool :=
  if q = 0 then (0, false) else (word ((q.toNat - 1) / 2), decide ((q.toNat - 1) % 2 = 1))

/-- Leaf `i` of `fork_to` at depth `t`, leaves of size `g` (R234). -/
def forkLeaf (e : JobEntry) (t g i : Nat) : JobEntry where
  kind := .job
  jobId := e.jobId
  pathId := word ((e.pathId.toNat + 1) * 2 ^ t - 1 + i)
  side := false
  data := (List.range g).map fun u => e.data.getD (bitReverse t i + u * 2 ^ t) 0

/-- `fft(J)` (R236). -/
def jobTransform (c : Cfg) (e : JobEntry) : JobEntry where
  kind := .mergeJob
  jobId := e.jobId
  pathId := (parentTags e.pathId).1
  side := (parentTags e.pathId).2
  data := recFft c e.data.length.log2 e.data

/-- `merge(A, B)` of two mergeable entries of equal length (R239). -/
def mergeEntries (c : Cfg) (a b : JobEntry) : JobEntry where
  kind := .mergeJob
  jobId := a.jobId
  pathId := (parentTags a.pathId).1
  side := (parentTags a.pathId).2
  data :=
    let e := if a.side then b else a
    let o := if a.side then a else b
    combine c (c.rootAt (2 * a.data.length).log2) e.data o.data

/-- The mask `k` of `PAIRKEY`: bit 0 `job_id` differ, bit 1 `path_id` differ, bit 2 `side` equal, bit 3 lengths differ (R240). -/
def pairMask (a b : JobEntry) : Nat :=
  (if a.jobId ≠ b.jobId then 1 else 0) + (if a.pathId ≠ b.pathId then 2 else 0) +
    (if a.side = b.side then 4 else 0) + (if a.data.length ≠ b.data.length then 8 else 0)

/-! Work on the table -/

/-- What the job commands change: the table, the count of free values, `RINIT`. -/
structure JobWork where
  jt : Vector (Option JobEntry) 64
  draws : Nat
  rinit : Bool
deriving DecidableEq, Repr

/-- The work a command starts from. -/
def State.jobWork (s : State) : JobWork := ⟨s.jt, s.draws, s.rinit⟩

/-- The state with the work done. -/
def State.withJobWork (s : State) (w : JobWork) : State := { s with jt := w.jt, draws := w.draws, rinit := w.rinit }

/-- `JT[j]` of the work. -/
def JobWork.slot (w : JobWork) (j : Nat) : Option JobEntry := w.jt[j]?.getD none

/-- `JT[j] <- e`, its vector opened where an element operand was not reduced (U1). -/
def JobWork.put (w : JobWork) (reduced : Bool) (j : Nat) (e : JobEntry) : JobWork :=
  let d := openVec reduced e.data w.draws
  { w with jt := w.jt.setIfInBounds j (some { e with data := d.1 }), draws := d.2 }

/-- `JT[j] <- empty`. -/
def JobWork.clear (w : JobWork) (j : Nat) : JobWork := { w with jt := w.jt.setIfInBounds j none }

/-- `RINIT <- 1` (10_state.md R37). -/
def JobWork.useRoots (w : JobWork) : JobWork := { w with rinit := true }

/-- Consecutive slots from `j` up take these entries (R235). -/
def JobWork.putAll (reduced : Bool) : Nat → List JobEntry → JobWork → JobWork
  | _, [], w => w
  | j, e :: es, w => JobWork.putAll reduced (j + 1) es (w.put reduced j e)

/-- What `JFFT js` does to the table (R237). -/
def fftSlot (c : Cfg) (reduced : Bool) (js : Nat) (w : JobWork) : Except Trap JobWork :=
  match w.slot js with
  | none => .error (trap .jobState js 2 0)
  | some e =>
    if e.kind ≠ .job then .error (trap .jobState js 2 0)
    else match rootTrap c e.data.length with
      | some t => .error t
      | none => .ok (w.put reduced js (jobTransform c e)).useRoots

/-- What `JMERGE js, jo` does to the table (R240). -/
def mergeSlots (c : Cfg) (reduced : Bool) (js jo : Nat) (w : JobWork) : Except Trap JobWork :=
  match w.slot js with
  | none => .error (trap .jobState js 3 0)
  | some a =>
    if a.kind ≠ .mergeJob then .error (trap .jobState js 3 0)
    else match w.slot jo with
      | none => .error (trap .jobState jo 3 0)
      | some b =>
        if b.kind ≠ .mergeJob then .error (trap .jobState jo 3 0)
        else if pairMask a b ≠ 0 then .error (trap .pairKey js jo (pairMask a b))
        else if c.jMaxLen < 2 * a.data.length then .error (trap .capacity (2 * a.data.length) c.jMaxLen 0)
        else match rootTrap c (2 * a.data.length) with
          | some t => .error t
          | none => .ok ((w.put reduced js (mergeEntries c a b)).clear jo).useRoots

/-- The occupied slots whose entries satisfy `p`, ascending. -/
def slotsWhere (jt : Vector (Option JobEntry) 64) (p : JobEntry → Bool) : List (Nat × JobEntry) :=
  (List.range 64).filterMap fun j => match jt[j]?.getD none with
    | some e => if p e then some (j, e) else none
    | none => none

/-- `M(id)`: the MergeJobs of one `job_id` (R242). -/
def mergeJobsOf (jt : Vector (Option JobEntry) 64) (id : Word) : List (Nat × JobEntry) :=
  slotsWhere jt fun e => e.kind == .mergeJob && e.jobId == id

/-- The Jobs of one `job_id` (R245). -/
def jobsOf (jt : Vector (Option JobEntry) 64) (id : Word) : List (Nat × JobEntry) :=
  slotsWhere jt fun e => e.kind == .job && e.jobId == id

/-- Equal `path_id`, different `side`: the predicate of `find_pair` within one `job_id` (R243). -/
def isMate (e o : JobEntry) : Bool := e.pathId == o.pathId && e.side != o.side

/-- The least pair, by first slot, then second (R242, R243). -/
def findPair : List (Nat × JobEntry) → Option (Nat × Nat)
  | [] => none
  | (i, e) :: rest =>
    match rest.find? fun o => isMate e o.2 with
    | some (j, _) => some (i, j)
    | none => findPair rest

/-- Transform every listed slot in turn (R245). -/
def fftLeaves (c : Cfg) (reduced : Bool) : List Nat → JobWork → Except Trap JobWork
  | [], w => .ok w
  | j :: js, w => (fftSlot c reduced j w).bind (fftLeaves c reduced js)

/-- Merge pairs until at most one MergeJob of the `job_id` is left (R245); 64 slots need at most 63 rounds. -/
def mergeRounds (c : Cfg) (reduced : Bool) (id : Word) : Nat → JobWork → Except Trap JobWork
  | 0, w => .ok w
  | rounds + 1, w =>
    let m := mergeJobsOf w.jt id
    if m.length ≤ 1 then .ok w
    else match findPair m with
      | none => .error (trap .noPair id.toNat m.length 0)
      | some (i, j) => (mergeSlots c reduced i j w).bind (mergeRounds c reduced id rounds)

/-- The whole run of `JRUN` on the table (R245). -/
def runTree (c : Cfg) (reduced : Bool) (id : Word) (w : JobWork) : Except Trap JobWork :=
  (fftLeaves c reduced ((jobsOf w.jt id).map (·.1)) w).bind (mergeRounds c reduced id 64)

/-- Every element of every entry of one `job_id` is reduced: `JRUN`'s element operands (log entry 19). -/
def treeReduced (c : Cfg) (jt : Vector (Option JobEntry) 64) (id : Word) : Bool :=
  (slotsWhere jt fun e => e.jobId == id).all fun e => allReduced c e.2.data

/-- Every element of a slot's entry is reduced. -/
def slotReduced (s : State) (j : JobIdx) : Bool :=
  match s.getJob j with
  | some e => allReduced s.cfg e.data
  | none => true

/-! The commands -/

/-- The checks of `JNEW` (R233). -/
def jnewTrap (s : State) (js : JobIdx) (src len : Word) : Option Trap :=
  if (s.getJob js).isSome then some (trap .jobState js.toNat 1 0)
  else if !isPow2 len.toNat then some (trap .nPow2 len.toNat 0x50 0)
  else if s.cfg.jMaxLen < len.toNat then some (trap .capacity len.toNat s.cfg.jMaxLen 0)
  else boundsTrap s src.toNat len.toNat

/-- `JNEW js, src, len, job_id` (R233). -/
def execJnew (js : JobIdx) (src len jobId : Word) (s : State) : Host.Outcome State Fault Refusal :=
  let v := s.memRead src.toNat len.toNat
  settle s (guarded (jnewTrap s js src len)
    (s.withJobWork (s.jobWork.put (allReduced s.cfg v) js.toNat ⟨.job, jobId, 0, false, v⟩)))

/-- The first occupied slot among `jd .. jd+count-1`. -/
def firstOccupied (s : State) (jd count : Nat) : Option Nat :=
  ((List.range count).map (jd + ·)).find? fun j => (s.jobWork.slot j).isSome

/-- The checks of `JFORK` on its source entry (R235). -/
def jforkTrap (s : State) (jd : JobIdx) (e : JobEntry) (g : Nat) : Option Trap :=
  let n := e.data.length
  let leaves := 2 ^ (n.log2 - g.log2)
  if !isPow2 g || decide (n < g) then some (trap .forkSize g n 0)
  else if 64 < jd.toNat + leaves then some (trap .capacity (jd.toNat + leaves) 64 1)
  else if 2 ^ 32 ≤ (e.pathId.toNat + 1) * leaves + leaves - 2 then some (trap .forkSize g n 1)
  else match firstOccupied s jd.toNat leaves with
    | some j => some (trap .jobState j 1 0)
    | none => none

/-- `JFORK jd, js, target_size` (R235): the source is not consumed. -/
def execJfork (jd js : JobIdx) (target : Word) (s : State) : Host.Outcome State Fault Refusal :=
  settle s (match s.getJob js with
    | none => .error (trap .jobState js.toNat 2 0)
    | some e =>
      if e.kind ≠ .job then .error (trap .jobState js.toNat 2 0)
      else
        let t := e.data.length.log2 - target.toNat.log2
        guarded (jforkTrap s jd e target.toNat)
          (s.withJobWork (JobWork.putAll (allReduced s.cfg e.data) jd.toNat
            ((List.range (2 ^ t)).map (forkLeaf e t target.toNat)) s.jobWork)))

/-- `JFFT js` (R237). -/
def execJfft (js : JobIdx) (s : State) : Host.Outcome State Fault Refusal :=
  settle s ((fftSlot s.cfg (slotReduced s js) js.toNat s.jobWork).map s.withJobWork)

/-- `JMERGE js, jo` (R240). -/
def execJmerge (js jo : JobIdx) (s : State) : Host.Outcome State Fault Refusal :=
  settle s ((mergeSlots s.cfg (slotReduced s js && slotReduced s jo) js.toNat jo.toNat s.jobWork).map s.withJobWork)

/-- `JFIND job_id` (R243). -/
def execJfind (jobId : Word) (s : State) : Host.Outcome State Fault Refusal :=
  let m := mergeJobsOf s.jt jobId
  settle s (match findPair m with
    | some (i, j) => .ok ((s.setZ true).setRes (word i) (word j) (word m.length))
    | none =>
      if 1 < m.length then .error (trap .noPair jobId.toNat m.length 0)
      else .ok ((s.setZ false).setRes 0xffffffff 0xffffffff (word m.length)))

/-- `RES0..2` at the end of `JRUN` (R245). -/
def reportRun (s : State) (jobId : Word) : State :=
  match mergeJobsOf s.jt jobId with
  | [(j, e)] => s.setRes (word j) e.pathId (word e.data.length)
  | _ => s.setRes 0xffffffff 0 0

/-- `JRUN job_id` (R245): atomic, a fault of any step is the command's. -/
def execJrun (jobId : Word) (s : State) : Host.Outcome State Fault Refusal :=
  settle s ((runTree s.cfg (treeReduced s.cfg s.jt jobId) jobId s.jobWork).map fun w => reportRun (s.withJobWork w) jobId)

/-- `JST js, dst` (R246). -/
def execJst (js : JobIdx) (dst : Word) (s : State) : Host.Outcome State Fault Refusal :=
  settle s (match s.getJob js with
    | none => .error (trap .jobState js.toNat 4 0)
    | some e => guarded (boundsTrap s dst.toNat e.data.length) (s.putVec dst.toNat (allReduced s.cfg e.data) e.data))

/-- `JFREE js` (R248). -/
def execJfree (js : JobIdx) (s : State) : Host.Outcome State Fault Refusal := settle s (.ok (s.setJob js none))

/-- `RES0` of `JQRY` for an occupied slot: valid, kind, side, `log2 len` in bits 15:8 (R247). -/
def jobStatus (e : JobEntry) : Word :=
  word (1 + (if e.kind = .mergeJob then 2 else 0) + (if e.side then 4 else 0) + e.data.length.log2 % 256 * 256)

/-- `JQRY js` (R247). -/
def execJqry (js : JobIdx) (s : State) : Host.Outcome State Fault Refusal :=
  settle s (.ok (match s.getJob js with
    | none => s.setRes 0 0 0
    | some e => s.setRes (jobStatus e) e.pathId e.jobId))

end Sys2Proof.Machine
end

