-- ==== Sys2Proof/Machine/Polys.lean ====
section
/-! DEFINITION. Polynomial commands, family 0x6_ (45_polynomial.md). -/

namespace Sys2Proof.Machine

/-! The two forms (R261, R262) -/

/-- The coefficient vector, by inverse transform when only the points are present (R262). -/
def Poly.coefVec (c : Cfg) (p : Poly) : List U256 :=
  match p.coef with
  | some v => v
  | none => invFft c p.degree.log2 (p.point.getD [])

/-- The point vector, by transform when only the coefficients are present (R262). -/
def Poly.pointVec (c : Cfg) (p : Poly) : List U256 :=
  match p.point with
  | some v => v
  | none => recFft c p.degree.log2 (p.coef.getD [])

/-- The elements a command reads that wants the coefficient form. -/
def Poly.coefOperands (p : Poly) : List U256 := p.coef.getD (p.point.getD [])

/-- The elements a command reads that wants the point form. -/
def Poly.pointOperands (p : Poly) : List U256 := p.point.getD (p.coef.getD [])

/-- `if cv = 0 and log2 degree > MAXLOG: raise ROOTORDER(degree, 0, 0)`. -/
def Poly.coefTrap (c : Cfg) (p : Poly) : Option Trap := if p.coef.isNone then rootTrap c p.degree else none

/-- `if pv = 0 and log2 degree > MAXLOG: raise ROOTORDER(degree, 0, 0)`. -/
def Poly.pointTrap (c : Cfg) (p : Poly) : Option Trap := if p.point.isNone then rootTrap c p.degree else none

/-- `force_coef(PD[i])` (R262); a transform sets `RINIT` (R260). -/
def State.forceCoef (s : State) (i : PolyIdx) (reduced : Bool) : State :=
  match s.getPoly i with
  | none => s
  | some p =>
    if p.coef.isSome then s
    else
      let v := openVec reduced (p.coefVec s.cfg) s.draws
      { s.setPoly i (some { p with coef := some v.1 }) with draws := v.2, rinit := true }

/-- `force_point(PD[i])` (R262). -/
def State.forcePoint (s : State) (i : PolyIdx) (reduced : Bool) : State :=
  match s.getPoly i with
  | none => s
  | some p =>
    if p.point.isSome then s
    else
      let v := openVec reduced (p.pointVec s.cfg) s.draws
      { s.setPoly i (some { p with point := some v.1 }) with draws := v.2, rinit := true }

/-- `extend(PD[i], D)` (R265): zero coefficients appended, the old points dropped; nothing at the same degree. -/
def State.extend (s : State) (i : PolyIdx) (d : Nat) (reduced : Bool) : State :=
  match s.getPoly i with
  | none => s
  | some p =>
    if d = p.degree then s
    else
      let v := openVec reduced (p.coefVec s.cfg ++ List.replicate (d - p.degree) 0) s.draws
      { s.setPoly i (some ⟨d, some v.1, none⟩) with draws := v.2, rinit := s.rinit || p.coef.isNone }

/-- `PD[i].coef`, after it was forced. -/
def State.coefOf (s : State) (i : PolyIdx) : List U256 := ((s.getPoly i).bind (·.coef)).getD []

/-- `PD[i].point`, after it was forced. -/
def State.pointOf (s : State) (i : PolyIdx) : List U256 := ((s.getPoly i).bind (·.point)).getD []

/-- `PD[i] <-` a new polynomial in coefficient form, its elements opened where an operand was not reduced (U1). -/
def State.newCoef (s : State) (i : PolyIdx) (reduced : Bool) (d : Nat) (v : List U256) : State :=
  { s.setPoly i (some ⟨d, some (openVec reduced v s.draws).1, none⟩) with draws := (openVec reduced v s.draws).2 }

/-- `PD[i] <-` a new polynomial in point form. -/
def State.newPoint (s : State) (i : PolyIdx) (reduced : Bool) (d : Nat) (v : List U256) : State :=
  { s.setPoly i (some ⟨d, none, some (openVec reduced v s.draws).1⟩) with draws := (openVec reduced v s.draws).2 }

/-- A body on a valid descriptor; `POLYSTATE(i, 2, 0)` on an invalid one. -/
def onPoly (s : State) (i : PolyIdx) (body : Poly → Except Trap State) : Except Trap State :=
  match s.getPoly i with
  | none => .error (trap .polyState i.toNat 2 0)
  | some p => body p

/-! Creating (R263, R264) -/

/-- The checks of `PNEW` (R263). -/
def pnewTrap (s : State) (pd : PolyIdx) (src count : Word) : Option Trap :=
  if (s.getPoly pd).isSome then some (trap .polyState pd.toNat 1 0)
  else if s.cfg.pMaxDeg < ceilPow2 count.toNat then some (trap .capacity (ceilPow2 count.toNat) s.cfg.pMaxDeg 2)
  else boundsTrap s src.toNat count.toNat

/-- `PNEW pd, src, count` (R263). -/
def execPnew (pd : PolyIdx) (src count : Word) (s : State) : Host.Outcome State Fault Refusal :=
  let v := s.memRead src.toNat count.toNat
  let d := ceilPow2 count.toNat
  settle s (guarded (pnewTrap s pd src count)
    (s.newCoef pd (allReduced s.cfg v) d (v ++ List.replicate (d - count.toNat) 0)))

/-- The checks of `PNEWP` (R264). -/
def pnewpTrap (s : State) (pd : PolyIdx) (src len : Word) : Option Trap :=
  if (s.getPoly pd).isSome then some (trap .polyState pd.toNat 1 0)
  else if !isPow2 len.toNat then some (trap .nPow2 len.toNat 0x61 0)
  else if s.cfg.pMaxDeg < len.toNat then some (trap .capacity len.toNat s.cfg.pMaxDeg 2)
  else boundsTrap s src.toNat len.toNat

/-- `PNEWP pd, src, len` (R264). -/
def execPnewp (pd : PolyIdx) (src len : Word) (s : State) : Host.Outcome State Fault Refusal :=
  let v := s.memRead src.toNat len.toNat
  settle s (guarded (pnewpTrap s pd src len) (s.newPoint pd (allReduced s.cfg v) len.toNat v))

/-! Extension (R266) -/

/-- The checks of `PEXT` on its descriptor (R266). -/
def pextTrap (s : State) (p : Poly) (d : Nat) : Option Trap :=
  if !isPow2 d || decide (d < p.degree) then some (trap .degree d p.degree 0)
  else if s.cfg.pMaxDeg < d then some (trap .capacity d s.cfg.pMaxDeg 2)
  else if d = p.degree then none
  else p.coefTrap s.cfg

/-- `PEXT pd, new_degree` (R266). -/
def execPext (pd : PolyIdx) (newDegree : Word) (s : State) : Host.Outcome State Fault Refusal :=
  settle s (onPoly s pd fun p =>
    guarded (pextTrap s p newDegree.toNat) (s.extend pd newDegree.toNat (allReduced s.cfg p.coefOperands)))

/-! Addition and multiplication (R267 to R269) -/

/-- A destination that is neither source must be invalid (R267): `POLYSTATE(pd, 1, 0)`. -/
def destTrap (s : State) (pd pa pb : PolyIdx) : Option Trap :=
  if pd ≠ pa ∧ pd ≠ pb ∧ (s.getPoly pd).isSome then some (trap .polyState pd.toNat 1 0) else none

/-- The effect of `PADD` after its checks (R268). -/
def paddEffect (s : State) (pd pa pb : PolyIdx) (p q : Poly) : State :=
  let ok := allReduced s.cfg p.coefOperands && allReduced s.cfg q.coefOperands
  let d := max p.degree q.degree
  let t := (((s.extend pa d ok).extend pb d ok).forceCoef pa ok).forceCoef pb ok
  t.newCoef pd ok d (List.zipWith (monAdd s.cfg) (t.coefOf pa) (t.coefOf pb))

/-- `PADD pd, pa, pb` (R268). -/
def execPadd (pd pa pb : PolyIdx) (s : State) : Host.Outcome State Fault Refusal :=
  settle s (onPoly s pa fun p => onPoly s pb fun q =>
    guarded ((destTrap s pd pa pb).or ((p.coefTrap s.cfg).or (q.coefTrap s.cfg))) (paddEffect s pd pa pb p q))

/-- The checks of `PMUL` on its product degree (R269). -/
def pmulTrap (c : Cfg) (d : Nat) : Option Trap :=
  if c.pMaxDeg < d then some (trap .capacity d c.pMaxDeg 2) else rootTrap c d

/-- The effect of `PMUL` after its checks (R269). -/
def pmulEffect (s : State) (pd pa pb : PolyIdx) (p q : Poly) : State :=
  let ok := allReduced s.cfg p.coefOperands && allReduced s.cfg q.coefOperands
  let d := 2 * max p.degree q.degree
  let t := (((s.extend pa d ok).extend pb d ok).forcePoint pa ok).forcePoint pb ok
  t.newPoint pd ok d (List.zipWith (monPro s.cfg) (t.pointOf pa) (t.pointOf pb))

/-- `PMUL pd, pa, pb` (R269). -/
def execPmul (pd pa pb : PolyIdx) (s : State) : Host.Outcome State Fault Refusal :=
  settle s (onPoly s pa fun p => onPoly s pb fun q =>
    guarded ((destTrap s pd pa pb).or (pmulTrap s.cfg (2 * max p.degree q.degree))) (pmulEffect s pd pa pb p q))

/-! Evaluation (R271) -/

/-- Horner's loop from the top coefficient down: `acc = MonAdd(MonPro(acc, x), coef[i])` (R271). -/
def horner (c : Cfg) (x : U256) (coef : List U256) : U256 := coef.foldr (fun a acc => monAdd c (monPro c acc x) a) 0

/-- `PEVAL fd, pa, fx` (R271). -/
def execPeval (fd : RegIdx) (pa : PolyIdx) (fx : RegIdx) (s : State) : Host.Outcome State Fault Refusal :=
  settle s (onPoly s pa fun p =>
    let ok := allReduced s.cfg p.coefOperands && isReduced s.cfg (s.getF fx)
    let t := s.forceCoef pa ok
    guarded (p.coefTrap s.cfg) (t.putElem fd ok (horner s.cfg (s.getF fx) (t.coefOf pa))))

/-! Conversion, reading out, freeing (R272 to R277) -/

/-- `PCOEF pd` (R272). -/
def execPcoef (pd : PolyIdx) (s : State) : Host.Outcome State Fault Refusal :=
  settle s (onPoly s pd fun p =>
    guarded (p.coefTrap s.cfg) (s.forceCoef pd (allReduced s.cfg p.coefOperands)))

/-- `PPOINT pd` (R273). -/
def execPpoint (pd : PolyIdx) (s : State) : Host.Outcome State Fault Refusal :=
  settle s (onPoly s pd fun p =>
    guarded (p.pointTrap s.cfg) (s.forcePoint pd (allReduced s.cfg p.pointOperands)))

/-- `PSTC pa, dst` (R275). -/
def execPstc (pa : PolyIdx) (dst : Word) (s : State) : Host.Outcome State Fault Refusal :=
  settle s (onPoly s pa fun p =>
    let ok := allReduced s.cfg p.coefOperands
    let t := s.forceCoef pa ok
    guarded ((p.coefTrap s.cfg).or (boundsTrap s dst.toNat p.degree)) (t.putVec dst.toNat ok (t.coefOf pa)))

/-- `PSTP pa, dst` (R276). -/
def execPstp (pa : PolyIdx) (dst : Word) (s : State) : Host.Outcome State Fault Refusal :=
  settle s (onPoly s pa fun p =>
    let ok := allReduced s.cfg p.pointOperands
    let t := s.forcePoint pa ok
    guarded ((p.pointTrap s.cfg).or (boundsTrap s dst.toNat p.degree)) (t.putVec dst.toNat ok (t.pointOf pa)))

/-- `PFREE pd` (R277). -/
def execPfree (pd : PolyIdx) (s : State) : Host.Outcome State Fault Refusal := settle s (.ok (s.setPoly pd none))

/-- `RES0` of `PQRY` for a valid descriptor: valid, `cv`, `pv` (R274). -/
def polyStatus (p : Poly) : Word := word (1 + (if p.coef.isSome then 2 else 0) + (if p.point.isSome then 4 else 0))

/-- `PQRY pa` (R274). -/
def execPqry (pa : PolyIdx) (s : State) : Host.Outcome State Fault Refusal :=
  settle s (.ok (match s.getPoly pa with
    | none => s.setRes 0 0 0
    | some p => s.setRes (polyStatus p) (word p.degree) 0))

end Sys2Proof.Machine
end

