-- ==== Sys2Proof/Machine/Uint.lean ====
section
/-! DEFINITION. FixedWidthUint commands, family 0x1_ (40_fixed_width_uint.md). -/

namespace Sys2Proof.Machine

/-- `UCLR fd` (R131). -/
def execUclr (fd : RegIdx) (s : State) : Host.Outcome State Fault Refusal := settle s (.ok (s.setF fd 0))

/-- `UMOV fd, fa` (R132). -/
def execUmov (fd fa : RegIdx) (s : State) : Host.Outcome State Fault Refusal := settle s (.ok (s.setF fd (s.getF fa)))

/-- `UADD fd, fa, fb` (R133). -/
def execUadd (fd fa fb : RegIdx) (s : State) : Host.Outcome State Fault Refusal :=
  let a := s.getF fa
  let b := s.getF fb
  settle s (.ok (((s.setF fd (a + b)).setC (carryOut a b)).setS (signBit (a + b))))

/-- `USUB fd, fa, fb` (R134). -/
def execUsub (fd fa fb : RegIdx) (s : State) : Host.Outcome State Fault Refusal :=
  let a := s.getF fa
  let b := s.getF fb
  settle s (.ok (((s.setF fd (a - b)).setC (borrowOut a b)).setS (signBit (a - b))))

/-- `UNEG fd, fa`: flip the bits and add 1 (R135). -/
def execUneg (fd fa : RegIdx) (s : State) : Host.Outcome State Fault Refusal :=
  let v := ~~~(s.getF fa) + 1
  settle s (.ok ((s.setF fd v).setS (signBit v)))

/-- `UMUL256 fd, fa, fb`: the low 256 bits of the product (R137). -/
def execUmul256 (fd fa fb : RegIdx) (s : State) : Host.Outcome State Fault Refusal :=
  settle s (.ok (s.setF fd (BitVec.ofNat 256 ((s.getF fa).toNat * (s.getF fb).toNat))))

/-- `UMUL512 fa, fb`: the full product to `W` (R138, R136). -/
def execUmul512 (fa fb : RegIdx) (s : State) : Host.Outcome State Fault Refusal :=
  settle s (.ok (s.setW (BitVec.ofNat 512 ((s.getF fa).toNat * (s.getF fb).toNat))))

/-- `UEQ fa, fb` (R139). -/
def execUeq (fa fb : RegIdx) (s : State) : Host.Outcome State Fault Refusal :=
  settle s (.ok (s.setZ (equalLimbs (s.getF fa) (s.getF fb))))

end Sys2Proof.Machine
end

