-- ==== Sys2Proof/Machine/Dispatch.lean ====
section
/-! DEFINITION. The meaning of each command: one arm per constructor of `Instr`. -/

namespace Sys2Proof.Machine

def exec (i : Instr) (s : State) : Host.Outcome State Fault Refusal :=
  match i with
  | .nop => Sys2Proof.Machine.execNop s
  | .lde fd addr => Sys2Proof.Machine.execLde fd addr s
  | .ste fa addr => Sys2Proof.Machine.execSte fa addr s
  | .ldi fd imm => Sys2Proof.Machine.execLdi fd imm s
  | .rdw fd half => Sys2Proof.Machine.execRdw fd half s
  | .uclr fd => Sys2Proof.Machine.execUclr fd s
  | .umov fd fa => Sys2Proof.Machine.execUmov fd fa s
  | .uadd fd fa fb => Sys2Proof.Machine.execUadd fd fa fb s
  | .usub fd fa fb => Sys2Proof.Machine.execUsub fd fa fb s
  | .uneg fd fa => Sys2Proof.Machine.execUneg fd fa s
  | .umul256 fd fa fb => Sys2Proof.Machine.execUmul256 fd fa fb s
  | .umul512 fa fb => Sys2Proof.Machine.execUmul512 fa fb s
  | .ueq fa fb => Sys2Proof.Machine.execUeq fa fb s
  | .monpro fd fa fb => Sys2Proof.Machine.execMonpro fd fa fb s
  | .monadd fd fa fb => Sys2Proof.Machine.execMonadd fd fa fb s
  | .monsub fd fa fb => Sys2Proof.Machine.execMonsub fd fa fb s
  | .tomont fd fa => Sys2Proof.Machine.execTomont fd fa s
  | .frommont fd fa => Sys2Proof.Machine.execFrommont fd fa s
  | .fzero fd => Sys2Proof.Machine.execFzero fd s
  | .fone fd => Sys2Proof.Machine.execFone fd s
  | .fsqr fd fa => Sys2Proof.Machine.execFsqr fd fa s
  | .fneg fd fa => Sys2Proof.Machine.execFneg fd fa s
  | .finv fd fa => Sys2Proof.Machine.execFinv fd fa s
  | .frand fd => Sys2Proof.Machine.execFrand fd s
  | .frands fd x y => Sys2Proof.Machine.execFrands fd x y s
  | .froot fd x y => Sys2Proof.Machine.execFroot fd x y s
  | .ffromcan fd fa => Sys2Proof.Machine.execFfromcan fd fa s
  | .ftocan fd fa => Sys2Proof.Machine.execFtocan fd fa s
  | .feq fa fb => Sys2Proof.Machine.execFeq fa fb s
  | .fisz fa => Sys2Proof.Machine.execFisz fa s
  | .fftrec src dst len => Sys2Proof.Machine.execFftrec src dst len s
  | .fftr2 fw src dst len => Sys2Proof.Machine.execFftr2 fw src dst len s
  | .fft4 logRows logCols src dst len => Sys2Proof.Machine.execFft4 logRows logCols src dst len s
  | .ifft src dst len => Sys2Proof.Machine.execIfft src dst len s
  | .jnew js src len jobId => Sys2Proof.Machine.execJnew js src len jobId s
  | .jfork jd js target => Sys2Proof.Machine.execJfork jd js target s
  | .jfft js => Sys2Proof.Machine.execJfft js s
  | .jmerge js jo => Sys2Proof.Machine.execJmerge js jo s
  | .jfind jobId => Sys2Proof.Machine.execJfind jobId s
  | .jrun jobId => Sys2Proof.Machine.execJrun jobId s
  | .jst js dst => Sys2Proof.Machine.execJst js dst s
  | .jfree js => Sys2Proof.Machine.execJfree js s
  | .jqry js => Sys2Proof.Machine.execJqry js s
  | .pnew pd src count => Sys2Proof.Machine.execPnew pd src count s
  | .pnewp pd src len => Sys2Proof.Machine.execPnewp pd src len s
  | .pext pd newDegree => Sys2Proof.Machine.execPext pd newDegree s
  | .padd pd pa pb => Sys2Proof.Machine.execPadd pd pa pb s
  | .pmul pd pa pb => Sys2Proof.Machine.execPmul pd pa pb s
  | .peval fd pa fx => Sys2Proof.Machine.execPeval fd pa fx s
  | .pcoef pd => Sys2Proof.Machine.execPcoef pd s
  | .ppoint pd => Sys2Proof.Machine.execPpoint pd s
  | .pstc pa dst => Sys2Proof.Machine.execPstc pa dst s
  | .pstp pa dst => Sys2Proof.Machine.execPstp pa dst s
  | .pfree pd => Sys2Proof.Machine.execPfree pd s
  | .pqry pa => Sys2Proof.Machine.execPqry pa s

end Sys2Proof.Machine
end

