-- ==== Sys2Proof/WellFormed.lean ====
section
/-! DEFINITION. When a command's operands are in the ranges its encoding admits (30_encoding.md R103 to R105). -/

namespace Sys2Proof

/-- "As element register": the field names `F[v]` and must be `< 16` (R103). -/
def isReg (r : RegIdx) : Bool := decide (r.toNat < 16)

/-- "As job slot": the field must be `< NJOB = 64` (R104). -/
def isJob (j : JobIdx) : Bool := decide (j.toNat < 64)

/-- "As descriptor": the field must be `< NPOLY = 8` (R104). -/
def isPoly (p : PolyIdx) : Bool := decide (p.toNat < 8)

/-- `log2 rows` and `log2 cols` of `FFT4` must be `<= 31` (R105). -/
def isLog (b : Byte) : Bool := decide (b.toNat < 32)

/-- The half selector of `RDW` must be 0 or 1 (R105). -/
def isHalf (b : Byte) : Bool := decide (b.toNat < 2)

/-- Every index operand of the command is in range. -/
def Instr.wf : Instr → Bool
  | .nop => true
  | .lde fd _ => isReg fd
  | .ste fa _ => isReg fa
  | .ldi fd _ => isReg fd
  | .rdw fd half => isReg fd && isHalf half
  | .uclr fd => isReg fd
  | .umov fd fa => isReg fd && isReg fa
  | .uadd fd fa fb => isReg fd && isReg fa && isReg fb
  | .usub fd fa fb => isReg fd && isReg fa && isReg fb
  | .uneg fd fa => isReg fd && isReg fa
  | .umul256 fd fa fb => isReg fd && isReg fa && isReg fb
  | .umul512 fa fb => isReg fa && isReg fb
  | .ueq fa fb => isReg fa && isReg fb
  | .monpro fd fa fb => isReg fd && isReg fa && isReg fb
  | .monadd fd fa fb => isReg fd && isReg fa && isReg fb
  | .monsub fd fa fb => isReg fd && isReg fa && isReg fb
  | .tomont fd fa => isReg fd && isReg fa
  | .frommont fd fa => isReg fd && isReg fa
  | .fzero fd => isReg fd
  | .fone fd => isReg fd
  | .fsqr fd fa => isReg fd && isReg fa
  | .fneg fd fa => isReg fd && isReg fa
  | .finv fd fa => isReg fd && isReg fa
  | .frand fd => isReg fd
  | .frands fd _ _ => isReg fd
  | .froot fd _ _ => isReg fd
  | .ffromcan fd fa => isReg fd && isReg fa
  | .ftocan fd fa => isReg fd && isReg fa
  | .feq fa fb => isReg fa && isReg fb
  | .fisz fa => isReg fa
  | .fftrec _ _ _ => true
  | .fftr2 fw _ _ _ => isReg fw
  | .fft4 a b _ _ _ => isLog a && isLog b
  | .ifft _ _ _ => true
  | .jnew js _ _ _ => isJob js
  | .jfork jd js _ => isJob jd && isJob js
  | .jfft js => isJob js
  | .jmerge js jo => isJob js && isJob jo
  | .jfind _ => true
  | .jrun _ => true
  | .jst js _ => isJob js
  | .jfree js => isJob js
  | .jqry js => isJob js
  | .pnew pd _ _ => isPoly pd
  | .pnewp pd _ _ => isPoly pd
  | .pext pd _ => isPoly pd
  | .padd pd pa pb => isPoly pd && isPoly pa && isPoly pb
  | .pmul pd pa pb => isPoly pd && isPoly pa && isPoly pb
  | .peval fd pa fx => isReg fd && isPoly pa && isReg fx
  | .pcoef pd => isPoly pd
  | .ppoint pd => isPoly pd
  | .pstc pa _ => isPoly pa
  | .pstp pa _ => isPoly pa
  | .pfree pd => isPoly pd
  | .pqry pa => isPoly pa

end Sys2Proof
end

