-- ==== Sys2Proof/Decode.lean ====
section
/-! DEFINITION. Decoding a command, total on all 2^128 values (30_encoding.md R100 to R110), and the encoder. -/

namespace Sys2Proof

/-- Why a command is illegal (R107 steps 2 and 3, R110). -/
inductive DecodeError where
  /-- the opcode is none of R109's -/
  | unassignedOpcode
  /-- a field the format does not use is not zero (R106) -/
  | unusedField
  /-- an index field is out of its range (R103 to R105) -/
  | indexRange
deriving DecidableEq, Repr

/-- The seven fields of a command, the same positions in every command (R101). -/
structure Fields where
  op : Byte
  d : Byte
  a : Byte
  b : Byte
  x : Word
  y : Word
  z : Word
deriving DecidableEq, Repr

/-- R101: `op[7:0] d[15:8] a[23:16] b[31:24] X[63:32] Y[95:64] Z[127:96]`. -/
def Fields.ofCommand (cmd : Command) : Fields where
  op := cmd.extractLsb' 0 8
  d := cmd.extractLsb' 8 8
  a := cmd.extractLsb' 16 8
  b := cmd.extractLsb' 24 8
  x := cmd.extractLsb' 32 32
  y := cmd.extractLsb' 64 32
  z := cmd.extractLsb' 96 32

/-- The command whose fields are these (R100, R101). -/
def Fields.toCommand (f : Fields) : Command := f.z ++ f.y ++ f.x ++ f.b ++ f.a ++ f.d ++ f.op

/-- `cmd = w3 ‖ w2 ‖ w1 ‖ w0` (R100). -/
def joinWords (w0 w1 w2 w3 : Word) : Command := w3 ++ w2 ++ w1 ++ w0

/-- What a format does with an index field (R102). -/
inductive Role where
  | unused
  | reg
  | job
  | poly
  | log
  | half
deriving DecidableEq, Repr

/-- A used index field is in its range (R103 to R105). -/
def Role.inRange : Role → Byte → Bool
  | .unused, _ => true
  | .reg, v => isReg v
  | .job, v => isJob v
  | .poly, v => isPoly v
  | .log, v => isLog v
  | .half, v => isHalf v

/-- A format: the role of each index field and whether each operand word is used (R102). -/
structure Format where
  d : Role := .unused
  a : Role := .unused
  b : Role := .unused
  x : Bool := false
  y : Bool := false
  z : Bool := false
deriving DecidableEq, Repr

/-- Format `N`: no field (R102). -/
def fmtN : Format := { }

/-- Format `R3`: `d` as element register, `a` as element register, `b` as element register (R102). -/
def fmtR3 : Format := { d := .reg, a := .reg, b := .reg }

/-- Format `R2`: `d` as element register, `a` as element register (R102). -/
def fmtR2 : Format := { d := .reg, a := .reg }

/-- Format `R1`: `d` as element register (R102). -/
def fmtR1 : Format := { d := .reg }

/-- Format `C2`: `a` as element register, `b` as element register (R102). -/
def fmtC2 : Format := { a := .reg, b := .reg }

/-- Format `C1`: `a` as element register (R102). -/
def fmtC1 : Format := { a := .reg }

/-- Format `RH`: `d` as element register, `b` as half selector (R102). -/
def fmtRH : Format := { d := .reg, b := .half }

/-- Format `I`: `d` as element register, `X` (R102). -/
def fmtI : Format := { d := .reg, x := true }

/-- Format `I64`: `d` as element register, `X`, `Y` (R102). -/
def fmtI64 : Format := { d := .reg, x := true, y := true }

/-- Format `ML`: `d` as element register, `X` (R102). -/
def fmtML : Format := { d := .reg, x := true }

/-- Format `MS`: `a` as element register, `X` (R102). -/
def fmtMS : Format := { a := .reg, x := true }

/-- Format `V`: `X`, `Y`, `Z` (R102). -/
def fmtV : Format := { x := true, y := true, z := true }

/-- Format `VW`: `a` as element register, `X`, `Y`, `Z` (R102). -/
def fmtVW : Format := { a := .reg, x := true, y := true, z := true }

/-- Format `V4`: `a` as logarithm, `b` as logarithm, `X`, `Y`, `Z` (R102). -/
def fmtV4 : Format := { a := .log, b := .log, x := true, y := true, z := true }

/-- Format `JN`: `d` as job slot, `X`, `Y`, `Z` (R102). -/
def fmtJN : Format := { d := .job, x := true, y := true, z := true }

/-- Format `JF`: `d` as job slot, `a` as job slot, `X` (R102). -/
def fmtJF : Format := { d := .job, a := .job, x := true }

/-- Format `J1`: `d` as job slot (R102). -/
def fmtJ1 : Format := { d := .job }

/-- Format `J2`: `d` as job slot, `a` as job slot (R102). -/
def fmtJ2 : Format := { d := .job, a := .job }

/-- Format `JI`: `X` (R102). -/
def fmtJI : Format := { x := true }

/-- Format `JS`: `a` as job slot, `X` (R102). -/
def fmtJS : Format := { a := .job, x := true }

/-- Format `JQ`: `a` as job slot (R102). -/
def fmtJQ : Format := { a := .job }

/-- Format `PN`: `d` as descriptor, `X`, `Y` (R102). -/
def fmtPN : Format := { d := .poly, x := true, y := true }

/-- Format `PX`: `d` as descriptor, `X` (R102). -/
def fmtPX : Format := { d := .poly, x := true }

/-- Format `P3`: `d` as descriptor, `a` as descriptor, `b` as descriptor (R102). -/
def fmtP3 : Format := { d := .poly, a := .poly, b := .poly }

/-- Format `PE`: `d` as element register, `a` as descriptor, `b` as element register (R102). -/
def fmtPE : Format := { d := .reg, a := .poly, b := .reg }

/-- Format `P1`: `d` as descriptor (R102). -/
def fmtP1 : Format := { d := .poly }

/-- Format `PS`: `a` as descriptor, `X` (R102). -/
def fmtPS : Format := { a := .poly, x := true }

/-- Format `PQ`: `a` as descriptor (R102). -/
def fmtPQ : Format := { a := .poly }

/-- Every field the format does not use is zero (R106). -/
def Format.unusedZero (m : Format) (f : Fields) : Bool :=
  (m.d != .unused || f.d == 0) && (m.a != .unused || f.a == 0) && (m.b != .unused || f.b == 0) &&
    (m.x || f.x == 0) && (m.y || f.y == 0) && (m.z || f.z == 0)

/-- Every used index field is in its range (R103 to R105). -/
def Format.indexInRange (m : Format) (f : Fields) : Bool :=
  m.d.inRange f.d && m.a.inRange f.a && m.b.inRange f.b

/-- R107 steps 3 and 4: the command `i`, if the fields are legal for the format. -/
def Format.accept (m : Format) (f : Fields) (i : Instr) : Except DecodeError Instr :=
  if m.unusedZero f then
    if m.indexInRange f then .ok i else .error .indexRange
  else .error .unusedField

/-- The opcode map (R109): the format of an opcode and the command its fields make, or `none` for the 201 opcodes R110
lists as unassigned. -/
def opcodeMap (f : Fields) : Option (Format × Instr) :=
  match f.op.toNat with
  | 0x00 => some (fmtN, .nop)
  | 0x01 => some (fmtML, .lde f.d f.x)
  | 0x02 => some (fmtMS, .ste f.a f.x)
  | 0x03 => some (fmtI, .ldi f.d f.x)
  | 0x04 => some (fmtRH, .rdw f.d f.b)
  | 0x10 => some (fmtR1, .uclr f.d)
  | 0x11 => some (fmtR2, .umov f.d f.a)
  | 0x12 => some (fmtR3, .uadd f.d f.a f.b)
  | 0x13 => some (fmtR3, .usub f.d f.a f.b)
  | 0x14 => some (fmtR2, .uneg f.d f.a)
  | 0x15 => some (fmtR3, .umul256 f.d f.a f.b)
  | 0x16 => some (fmtC2, .umul512 f.a f.b)
  | 0x17 => some (fmtC2, .ueq f.a f.b)
  | 0x20 => some (fmtR3, .monpro f.d f.a f.b)
  | 0x21 => some (fmtR3, .monadd f.d f.a f.b)
  | 0x22 => some (fmtR3, .monsub f.d f.a f.b)
  | 0x23 => some (fmtR2, .tomont f.d f.a)
  | 0x24 => some (fmtR2, .frommont f.d f.a)
  | 0x30 => some (fmtR1, .fzero f.d)
  | 0x31 => some (fmtR1, .fone f.d)
  | 0x32 => some (fmtR2, .fsqr f.d f.a)
  | 0x33 => some (fmtR2, .fneg f.d f.a)
  | 0x34 => some (fmtR2, .finv f.d f.a)
  | 0x35 => some (fmtR1, .frand f.d)
  | 0x36 => some (fmtI64, .frands f.d f.x f.y)
  | 0x37 => some (fmtI64, .froot f.d f.x f.y)
  | 0x38 => some (fmtR2, .ffromcan f.d f.a)
  | 0x39 => some (fmtR2, .ftocan f.d f.a)
  | 0x3A => some (fmtC2, .feq f.a f.b)
  | 0x3B => some (fmtC1, .fisz f.a)
  | 0x40 => some (fmtV, .fftrec f.x f.y f.z)
  | 0x41 => some (fmtVW, .fftr2 f.a f.x f.y f.z)
  | 0x42 => some (fmtV4, .fft4 f.a f.b f.x f.y f.z)
  | 0x43 => some (fmtV, .ifft f.x f.y f.z)
  | 0x50 => some (fmtJN, .jnew f.d f.x f.y f.z)
  | 0x51 => some (fmtJF, .jfork f.d f.a f.x)
  | 0x52 => some (fmtJ1, .jfft f.d)
  | 0x53 => some (fmtJ2, .jmerge f.d f.a)
  | 0x54 => some (fmtJI, .jfind f.x)
  | 0x55 => some (fmtJI, .jrun f.x)
  | 0x56 => some (fmtJS, .jst f.a f.x)
  | 0x57 => some (fmtJ1, .jfree f.d)
  | 0x58 => some (fmtJQ, .jqry f.a)
  | 0x60 => some (fmtPN, .pnew f.d f.x f.y)
  | 0x61 => some (fmtPN, .pnewp f.d f.x f.y)
  | 0x62 => some (fmtPX, .pext f.d f.x)
  | 0x63 => some (fmtP3, .padd f.d f.a f.b)
  | 0x64 => some (fmtP3, .pmul f.d f.a f.b)
  | 0x65 => some (fmtPE, .peval f.d f.a f.b)
  | 0x66 => some (fmtP1, .pcoef f.d)
  | 0x67 => some (fmtP1, .ppoint f.d)
  | 0x68 => some (fmtPS, .pstc f.a f.x)
  | 0x69 => some (fmtPS, .pstp f.a f.x)
  | 0x6A => some (fmtP1, .pfree f.d)
  | 0x6B => some (fmtPQ, .pqry f.a)
  | _ => none

/-- Decoding (R107): reads no state, answers the one command or the reason the word is illegal. -/
def decode (cmd : Command) : Except DecodeError Instr :=
  match opcodeMap (Fields.ofCommand cmd) with
  | none => .error .unassignedOpcode
  | some (m, i) => m.accept (Fields.ofCommand cmd) i

/-- The opcode byte of a command (R109). -/
def Instr.opcode : Instr → Byte
  | .nop => 0x00
  | .lde _ _ => 0x01
  | .ste _ _ => 0x02
  | .ldi _ _ => 0x03
  | .rdw _ _ => 0x04
  | .uclr _ => 0x10
  | .umov _ _ => 0x11
  | .uadd _ _ _ => 0x12
  | .usub _ _ _ => 0x13
  | .uneg _ _ => 0x14
  | .umul256 _ _ _ => 0x15
  | .umul512 _ _ => 0x16
  | .ueq _ _ => 0x17
  | .monpro _ _ _ => 0x20
  | .monadd _ _ _ => 0x21
  | .monsub _ _ _ => 0x22
  | .tomont _ _ => 0x23
  | .frommont _ _ => 0x24
  | .fzero _ => 0x30
  | .fone _ => 0x31
  | .fsqr _ _ => 0x32
  | .fneg _ _ => 0x33
  | .finv _ _ => 0x34
  | .frand _ => 0x35
  | .frands _ _ _ => 0x36
  | .froot _ _ _ => 0x37
  | .ffromcan _ _ => 0x38
  | .ftocan _ _ => 0x39
  | .feq _ _ => 0x3A
  | .fisz _ => 0x3B
  | .fftrec _ _ _ => 0x40
  | .fftr2 _ _ _ _ => 0x41
  | .fft4 _ _ _ _ _ => 0x42
  | .ifft _ _ _ => 0x43
  | .jnew _ _ _ _ => 0x50
  | .jfork _ _ _ => 0x51
  | .jfft _ => 0x52
  | .jmerge _ _ => 0x53
  | .jfind _ => 0x54
  | .jrun _ => 0x55
  | .jst _ _ => 0x56
  | .jfree _ => 0x57
  | .jqry _ => 0x58
  | .pnew _ _ _ => 0x60
  | .pnewp _ _ _ => 0x61
  | .pext _ _ => 0x62
  | .padd _ _ _ => 0x63
  | .pmul _ _ _ => 0x64
  | .peval _ _ _ => 0x65
  | .pcoef _ => 0x66
  | .ppoint _ => 0x67
  | .pstc _ _ => 0x68
  | .pstp _ _ => 0x69
  | .pfree _ => 0x6A
  | .pqry _ => 0x6B

/-- The fields of a command, every unused one zero (R101, R102, R106, R109). -/
def Instr.fields : Instr → Fields
  | .nop => ⟨0x00, 0, 0, 0, 0, 0, 0⟩
  | .lde fd addr => ⟨0x01, fd, 0, 0, addr, 0, 0⟩
  | .ste fa addr => ⟨0x02, 0, fa, 0, addr, 0, 0⟩
  | .ldi fd imm => ⟨0x03, fd, 0, 0, imm, 0, 0⟩
  | .rdw fd half => ⟨0x04, fd, 0, half, 0, 0, 0⟩
  | .uclr fd => ⟨0x10, fd, 0, 0, 0, 0, 0⟩
  | .umov fd fa => ⟨0x11, fd, fa, 0, 0, 0, 0⟩
  | .uadd fd fa fb => ⟨0x12, fd, fa, fb, 0, 0, 0⟩
  | .usub fd fa fb => ⟨0x13, fd, fa, fb, 0, 0, 0⟩
  | .uneg fd fa => ⟨0x14, fd, fa, 0, 0, 0, 0⟩
  | .umul256 fd fa fb => ⟨0x15, fd, fa, fb, 0, 0, 0⟩
  | .umul512 fa fb => ⟨0x16, 0, fa, fb, 0, 0, 0⟩
  | .ueq fa fb => ⟨0x17, 0, fa, fb, 0, 0, 0⟩
  | .monpro fd fa fb => ⟨0x20, fd, fa, fb, 0, 0, 0⟩
  | .monadd fd fa fb => ⟨0x21, fd, fa, fb, 0, 0, 0⟩
  | .monsub fd fa fb => ⟨0x22, fd, fa, fb, 0, 0, 0⟩
  | .tomont fd fa => ⟨0x23, fd, fa, 0, 0, 0, 0⟩
  | .frommont fd fa => ⟨0x24, fd, fa, 0, 0, 0, 0⟩
  | .fzero fd => ⟨0x30, fd, 0, 0, 0, 0, 0⟩
  | .fone fd => ⟨0x31, fd, 0, 0, 0, 0, 0⟩
  | .fsqr fd fa => ⟨0x32, fd, fa, 0, 0, 0, 0⟩
  | .fneg fd fa => ⟨0x33, fd, fa, 0, 0, 0, 0⟩
  | .finv fd fa => ⟨0x34, fd, fa, 0, 0, 0, 0⟩
  | .frand fd => ⟨0x35, fd, 0, 0, 0, 0, 0⟩
  | .frands fd x y => ⟨0x36, fd, 0, 0, x, y, 0⟩
  | .froot fd x y => ⟨0x37, fd, 0, 0, x, y, 0⟩
  | .ffromcan fd fa => ⟨0x38, fd, fa, 0, 0, 0, 0⟩
  | .ftocan fd fa => ⟨0x39, fd, fa, 0, 0, 0, 0⟩
  | .feq fa fb => ⟨0x3A, 0, fa, fb, 0, 0, 0⟩
  | .fisz fa => ⟨0x3B, 0, fa, 0, 0, 0, 0⟩
  | .fftrec src dst len => ⟨0x40, 0, 0, 0, src, dst, len⟩
  | .fftr2 fw src dst len => ⟨0x41, 0, fw, 0, src, dst, len⟩
  | .fft4 logRows logCols src dst len => ⟨0x42, 0, logRows, logCols, src, dst, len⟩
  | .ifft src dst len => ⟨0x43, 0, 0, 0, src, dst, len⟩
  | .jnew js src len jobId => ⟨0x50, js, 0, 0, src, len, jobId⟩
  | .jfork jd js target => ⟨0x51, jd, js, 0, target, 0, 0⟩
  | .jfft js => ⟨0x52, js, 0, 0, 0, 0, 0⟩
  | .jmerge js jo => ⟨0x53, js, jo, 0, 0, 0, 0⟩
  | .jfind jobId => ⟨0x54, 0, 0, 0, jobId, 0, 0⟩
  | .jrun jobId => ⟨0x55, 0, 0, 0, jobId, 0, 0⟩
  | .jst js dst => ⟨0x56, 0, js, 0, dst, 0, 0⟩
  | .jfree js => ⟨0x57, js, 0, 0, 0, 0, 0⟩
  | .jqry js => ⟨0x58, 0, js, 0, 0, 0, 0⟩
  | .pnew pd src count => ⟨0x60, pd, 0, 0, src, count, 0⟩
  | .pnewp pd src len => ⟨0x61, pd, 0, 0, src, len, 0⟩
  | .pext pd newDegree => ⟨0x62, pd, 0, 0, newDegree, 0, 0⟩
  | .padd pd pa pb => ⟨0x63, pd, pa, pb, 0, 0, 0⟩
  | .pmul pd pa pb => ⟨0x64, pd, pa, pb, 0, 0, 0⟩
  | .peval fd pa fx => ⟨0x65, fd, pa, fx, 0, 0, 0⟩
  | .pcoef pd => ⟨0x66, pd, 0, 0, 0, 0, 0⟩
  | .ppoint pd => ⟨0x67, pd, 0, 0, 0, 0, 0⟩
  | .pstc pa dst => ⟨0x68, 0, pa, 0, dst, 0, 0⟩
  | .pstp pa dst => ⟨0x69, 0, pa, 0, dst, 0, 0⟩
  | .pfree pd => ⟨0x6A, pd, 0, 0, 0, 0, 0⟩
  | .pqry pa => ⟨0x6B, 0, pa, 0, 0, 0, 0⟩

/-- The format of a command (R109). -/
def Instr.format : Instr → Format
  | .nop => fmtN
  | .lde _ _ => fmtML
  | .ste _ _ => fmtMS
  | .ldi _ _ => fmtI
  | .rdw _ _ => fmtRH
  | .uclr _ => fmtR1
  | .umov _ _ => fmtR2
  | .uadd _ _ _ => fmtR3
  | .usub _ _ _ => fmtR3
  | .uneg _ _ => fmtR2
  | .umul256 _ _ _ => fmtR3
  | .umul512 _ _ => fmtC2
  | .ueq _ _ => fmtC2
  | .monpro _ _ _ => fmtR3
  | .monadd _ _ _ => fmtR3
  | .monsub _ _ _ => fmtR3
  | .tomont _ _ => fmtR2
  | .frommont _ _ => fmtR2
  | .fzero _ => fmtR1
  | .fone _ => fmtR1
  | .fsqr _ _ => fmtR2
  | .fneg _ _ => fmtR2
  | .finv _ _ => fmtR2
  | .frand _ => fmtR1
  | .frands _ _ _ => fmtI64
  | .froot _ _ _ => fmtI64
  | .ffromcan _ _ => fmtR2
  | .ftocan _ _ => fmtR2
  | .feq _ _ => fmtC2
  | .fisz _ => fmtC1
  | .fftrec _ _ _ => fmtV
  | .fftr2 _ _ _ _ => fmtVW
  | .fft4 _ _ _ _ _ => fmtV4
  | .ifft _ _ _ => fmtV
  | .jnew _ _ _ _ => fmtJN
  | .jfork _ _ _ => fmtJF
  | .jfft _ => fmtJ1
  | .jmerge _ _ => fmtJ2
  | .jfind _ => fmtJI
  | .jrun _ => fmtJI
  | .jst _ _ => fmtJS
  | .jfree _ => fmtJ1
  | .jqry _ => fmtJQ
  | .pnew _ _ _ => fmtPN
  | .pnewp _ _ _ => fmtPN
  | .pext _ _ => fmtPX
  | .padd _ _ _ => fmtP3
  | .pmul _ _ _ => fmtP3
  | .peval _ _ _ => fmtPE
  | .pcoef _ => fmtP1
  | .ppoint _ => fmtP1
  | .pstc _ _ => fmtPS
  | .pstp _ _ => fmtPS
  | .pfree _ => fmtP1
  | .pqry _ => fmtPQ

/-- The 128-bit word of a command (R100, R101). -/
def encode (i : Instr) : Command := i.fields.toCommand

/-- The four words the host writes to `CMD0..CMD3` (R100). -/
def encodeWords (i : Instr) : List Word :=
  [(encode i).extractLsb' 0 32, (encode i).extractLsb' 32 32, (encode i).extractLsb' 64 32, (encode i).extractLsb' 96 32]

/-- The command whose bits, as spec/opcode_table.json numbers them, are the low `nbits` of `w`: its four words in the
order the host writes them, first word lowest. -/
def tableCommand (nbits w : Nat) : Command :=
  let v := w % 2 ^ nbits
  joinWords (BitVec.ofNat 32 v) (BitVec.ofNat 32 (v / 2 ^ 32)) (BitVec.ofNat 32 (v / 2 ^ 64)) (BitVec.ofNat 32 (v / 2 ^ 96))

/-- The instruction the decoder reads from that command; `none` where it is illegal. -/
def decodeTableWord (nbits w : Nat) : Option Instr :=
  match decode (tableCommand nbits w) with
  | .ok i => some i
  | .error _ => none

/-- One row of the machine-readable table: a word is the row's command exactly when `cmd & mask = pattern`
(30_encoding.md, opening text). -/
structure TableRow where
  pattern : Command
  mask : Command
deriving DecidableEq, Repr

/-- `match` and `mask` of the 55 rows of spec/opcode_table.json, in its order. -/
def tableRows : List TableRow :=
  [⟨0x0, 0xffffffffffffffffffffffffffffffff⟩,
   ⟨0x1, 0xffffffffffffffff00000000fffff0ff⟩,
   ⟨0x2, 0xffffffffffffffff00000000fff0ffff⟩,
   ⟨0x3, 0xffffffffffffffff00000000fffff0ff⟩,
   ⟨0x4, 0xfffffffffffffffffffffffffefff0ff⟩,
   ⟨0x10, 0xfffffffffffffffffffffffffffff0ff⟩,
   ⟨0x11, 0xfffffffffffffffffffffffffff0f0ff⟩,
   ⟨0x12, 0xfffffffffffffffffffffffff0f0f0ff⟩,
   ⟨0x13, 0xfffffffffffffffffffffffff0f0f0ff⟩,
   ⟨0x14, 0xfffffffffffffffffffffffffff0f0ff⟩,
   ⟨0x15, 0xfffffffffffffffffffffffff0f0f0ff⟩] ++
  [⟨0x16, 0xfffffffffffffffffffffffff0f0ffff⟩,
   ⟨0x17, 0xfffffffffffffffffffffffff0f0ffff⟩,
   ⟨0x20, 0xfffffffffffffffffffffffff0f0f0ff⟩,
   ⟨0x21, 0xfffffffffffffffffffffffff0f0f0ff⟩,
   ⟨0x22, 0xfffffffffffffffffffffffff0f0f0ff⟩,
   ⟨0x23, 0xfffffffffffffffffffffffffff0f0ff⟩,
   ⟨0x24, 0xfffffffffffffffffffffffffff0f0ff⟩,
   ⟨0x30, 0xfffffffffffffffffffffffffffff0ff⟩,
   ⟨0x31, 0xfffffffffffffffffffffffffffff0ff⟩,
   ⟨0x32, 0xfffffffffffffffffffffffffff0f0ff⟩,
   ⟨0x33, 0xfffffffffffffffffffffffffff0f0ff⟩] ++
  [⟨0x34, 0xfffffffffffffffffffffffffff0f0ff⟩,
   ⟨0x35, 0xfffffffffffffffffffffffffffff0ff⟩,
   ⟨0x36, 0xffffffff0000000000000000fffff0ff⟩,
   ⟨0x37, 0xffffffff0000000000000000fffff0ff⟩,
   ⟨0x38, 0xfffffffffffffffffffffffffff0f0ff⟩,
   ⟨0x39, 0xfffffffffffffffffffffffffff0f0ff⟩,
   ⟨0x3a, 0xfffffffffffffffffffffffff0f0ffff⟩,
   ⟨0x3b, 0xfffffffffffffffffffffffffff0ffff⟩,
   ⟨0x40, 0xffffffff⟩,
   ⟨0x41, 0xfff0ffff⟩,
   ⟨0x42, 0xe0e0ffff⟩] ++
  [⟨0x43, 0xffffffff⟩,
   ⟨0x50, 0xffffc0ff⟩,
   ⟨0x51, 0xffffffffffffffff00000000ffc0c0ff⟩,
   ⟨0x52, 0xffffffffffffffffffffffffffffc0ff⟩,
   ⟨0x53, 0xffffffffffffffffffffffffffc0c0ff⟩,
   ⟨0x54, 0xffffffffffffffff00000000ffffffff⟩,
   ⟨0x55, 0xffffffffffffffff00000000ffffffff⟩,
   ⟨0x56, 0xffffffffffffffff00000000ffc0ffff⟩,
   ⟨0x57, 0xffffffffffffffffffffffffffffc0ff⟩,
   ⟨0x58, 0xffffffffffffffffffffffffffc0ffff⟩,
   ⟨0x60, 0xffffffff0000000000000000fffff8ff⟩] ++
  [⟨0x61, 0xffffffff0000000000000000fffff8ff⟩,
   ⟨0x62, 0xffffffffffffffff00000000fffff8ff⟩,
   ⟨0x63, 0xfffffffffffffffffffffffff8f8f8ff⟩,
   ⟨0x64, 0xfffffffffffffffffffffffff8f8f8ff⟩,
   ⟨0x65, 0xfffffffffffffffffffffffff0f8f0ff⟩,
   ⟨0x66, 0xfffffffffffffffffffffffffffff8ff⟩,
   ⟨0x67, 0xfffffffffffffffffffffffffffff8ff⟩,
   ⟨0x68, 0xffffffffffffffff00000000fff8ffff⟩,
   ⟨0x69, 0xffffffffffffffff00000000fff8ffff⟩,
   ⟨0x6a, 0xfffffffffffffffffffffffffffff8ff⟩,
   ⟨0x6b, 0xfffffffffffffffffffffffffff8ffff⟩]

end Sys2Proof
end

