-- ==== Sys2Proof/Machine/HostPort.lean ====
section
/-! DEFINITION. The host's side: the register map (10_state.md R43), command staging and issue (R44), the `VM` window
(20_memory.md R74 to R76), reset (70_reset_and_hazards.md R340 to R344), the output ports (R47), and which event comes next. -/

namespace Sys2Proof.Machine

/-! Ports (R47) -/

/-- The output `irq_fault`, equal to `STATUS.FAULT` (60_exceptions.md R310). -/
def State.irqFault (s : State) : Bool := s.fault

/-- The output `idle`: not `BUSY` and not `FAULT` (R27, R47). -/
def State.idle (s : State) : Bool := !s.busy && !s.fault

/-! The register map (R43) -/

/-- Three bits as the low bits of a word. -/
def bits3 (b0 b1 b2 : Bool) : Word := word (b0.toNat + 2 * b1.toNat + 4 * b2.toNat)

/-- `STATUS`: `BUSY`, `FAULT`, `RINIT` (R27). -/
def statusWord (s : State) : Word := bits3 s.busy s.fault s.rinit

/-- `FLAGS`: `C`, `S`, `Z` (R26). -/
def flagsWord (s : State) : Word := bits3 s.flagC s.flagS s.flagZ

/-- `CAP0`: `NREG`, `NJOB`, `NPOLY`, `MAXLOG` (R43). -/
def cap0 (c : Cfg) : Word := word (16 + 64 * 2 ^ 8 + 8 * 2 ^ 16 + c.maxLog * 2 ^ 24)

/-- `CAP1`: the logarithms of `VMSIZE`, `JMAXLEN`, `PMAXDEG` (R43). -/
def cap1 (c : Cfg) : Word :=
  word (c.vmSize.log2 % 256 + c.jMaxLen.log2 % 256 * 2 ^ 8 + c.pMaxDeg.log2 % 256 * 2 ^ 16)

/-- What the host reads at CSR number `n` (R43): a write-only number and a number not in the table read 0. -/
def csrRead (s : State) (n : Nat) : Word :=
  if n = 0x000 then statusWord s
  else if n = 0x001 then flagsWord s
  else if n = 0x002 then s.cseq
  else if n = 0x003 then s.frec.cause
  else if n = 0x004 then s.frec.info0
  else if n = 0x005 then s.frec.info1
  else if n = 0x006 then s.frec.info2
  else if n = 0x008 then s.frec.cmd0
  else if n = 0x009 then s.frec.cmd1
  else if n = 0x00a then s.frec.cmd2
  else if n = 0x00b then s.frec.cmd3
  else if n = 0x00c then s.res0
  else if n = 0x00d then s.res1
  else if n = 0x00e then s.res2
  else if n = 0x010 then cap0 s.cfg
  else if n = 0x011 then cap1 s.cfg
  else if 0x020 ≤ n ∧ n < 0x028 then limb s.cfg.n (n - 0x020)
  else if 0x028 ≤ n ∧ n < 0x030 then limb s.cfg.negN (n - 0x028)
  else if 0x030 ≤ n ∧ n < 0x038 then limb s.cfg.r2 (n - 0x030)
  else if 0x038 ≤ n ∧ n < 0x040 then limb s.cfg.r3 (n - 0x038)
  else if 0x040 ≤ n ∧ n < 0x048 then limb s.cfg.oneM (n - 0x040)
  else if n = 0x048 then s.cfg.ninv0
  else if 0x100 ≤ n ∧ n < 0x100 + 8 * 63 then
    if (n - 0x100) / 8 ≤ s.cfg.maxLog then limb (s.cfg.rootAt ((n - 0x100) / 8)) ((n - 0x100) % 8) else 0
  else if 0x400 ≤ n ∧ n < 0x480 then limb (s.getF (BitVec.ofNat 8 ((n - 0x400) / 8))) ((n - 0x400) % 8)
  else if 0x480 ≤ n ∧ n < 0x490 then s.w.extractLsb' (32 * (n - 0x480)) 32
  else 0

/-- The write to `CMD3` issues the command made of the staged words and this one when the CORE is idle; else it is dropped
(R44). The count of free values moves so that each running command has one of its own (log entry 7). -/
def issue (s : State) (w3 : Word) : State :=
  if s.idle then { s with current := joinWords s.cmd0 s.cmd1 s.cmd2 w3, busy := true, draws := s.draws + 1 } else s

/-- A host write at CSR number `n` (R43, R44): every number but `CMD0..3` ignores it. -/
def csrWrite (s : State) (n : Nat) (v : Word) : State :=
  if n = 0x800 then { s with cmd0 := v }
  else if n = 0x801 then { s with cmd1 := v }
  else if n = 0x802 then { s with cmd2 := v }
  else if n = 0x803 then issue s v
  else s

/-! Reset -/

/-- The reset port (R340 to R344): every piece of state at its reset value, the configuration as it was, `VM` unspecified
afresh; the host's remaining moves, its read data and the count of free values are not the CORE's state. -/
def resetCore (s : State) : State :=
  { State.powerOn s.cfg with host := s.host, rdata := s.rdata, draws := s.draws, epoch := s.epoch + 1 }

/-! The host's bus (R74, R76) -/

/-- What a byte address of the host's bus names. -/
inductive BusTarget where
  | csr (n : Nat)
  | vm (slot limb : Nat)
  | absent
deriving DecidableEq, Repr

/-- CSR `n` at `CSR_BASE + 4n`, limb `i` of slot `e` at `VM_BASE + 32e + 4i` (20_memory.md R76; log entry 13). The address is
an unbounded number: one past both windows is absent, none wraps (log entry 23). -/
def busTarget (c : Cfg) (addr : Nat) : BusTarget :=
  if c.csrBase ≤ addr ∧ addr < c.csrBase + 4 * csrCount then .csr ((addr - c.csrBase) / 4)
  else if c.vmBase ≤ addr ∧ addr < c.vmBase + 32 * c.vmSize then .vm ((addr - c.vmBase) / 32) ((addr - c.vmBase) % 32 / 4)
  else .absent

/-- A read of a `VM` limb (R75, R76); a slot or limb that does not exist is no address of the window (U7). -/
def hostMemRead (s : State) (slot i : Nat) : Host.Outcome State Fault Refusal :=
  if slot < s.cfg.vmSize ∧ i < 8 then .next { s with rdata := s.vmLimb slot i } else .fault (.hostAddressAbsent (32 * slot + 4 * i))

/-- A write of a `VM` limb (R75, R76). -/
def hostMemWrite (s : State) (slot i : Nat) (v : Word) : Host.Outcome State Fault Refusal :=
  if slot < s.cfg.vmSize ∧ i < 8 then .next (s.writeLimb slot i v) else .fault (.hostAddressAbsent (32 * slot + 4 * i))

/-- One move of the host. -/
def hostMove (m : HostMove) (s : State) : Host.Outcome State Fault Refusal :=
  match m with
  | .reset => .next (resetCore s)
  | .regRead n => .next { s with rdata := csrRead s n }
  | .regWrite n v => .next (csrWrite s n v)
  | .memRead slot i => hostMemRead s slot i
  | .memWrite slot i v => hostMemWrite s slot i v
  | .busRead addr width =>
    if width ≠ 32 ∨ addr % 4 ≠ 0 then .refused (.hostAccessNotAWord addr width)
    else match busTarget s.cfg addr with
      | .csr n => .next { s with rdata := csrRead s n }
      | .vm slot i => hostMemRead s slot i
      | .absent => .fault (.hostAddressAbsent addr)
  | .busWrite addr width v =>
    if width ≠ 32 ∨ addr % 4 ≠ 0 then .refused (.hostAccessNotAWord addr width)
    else match busTarget s.cfg addr with
      | .csr n => .next (csrWrite s n v)
      | .vm slot i => hostMemWrite s slot i v
      | .absent => .fault (.hostAddressAbsent addr)

/-! Which event comes next -/

/-- A read of `STATUS`, the one access a host may make at any time (20_memory.md R78). -/
def isStatusRead (c : Cfg) (m : HostMove) : Bool :=
  match m with
  | .regRead n => n == 0
  | .busRead addr width => addr == c.csrBase && width == 32 && addr % 4 == 0
  | _ => false

/-- The next event: a move of the host with the moves after it, the running command, or nothing. -/
inductive Event where
  | host (m : HostMove) (rest : List HostMove)
  | command
  | quiet
deriving DecidableEq, Repr

/-- Reset wins over everything (60_exceptions.md R312); while a command runs the host may only read `STATUS`, and how many
such reads come before the command ends is open (R78, R360); otherwise the host moves; an idle CORE holds its state (R325). -/
def nextEvent (s : State) : Event :=
  match s.host with
  | [] => if s.busy then .command else .quiet
  | m :: rest =>
    if m = .reset then .host m rest
    else if s.busy then if isStatusRead s.cfg m && Config.statusReadFirst s.draws then .host m rest else .command
    else .host m rest

/-- The host's move taken: it leaves the list. A `STATUS` read during a command uses up the free value that let it in. -/
def takeMove (m : HostMove) (rest : List HostMove) (s : State) : Host.Outcome State Fault Refusal :=
  hostMove m { s with host := rest, draws := if s.busy then s.draws + 1 else s.draws }

/-- An illegal command faults `ILLEGAL` (30_encoding.md R107, R110). -/
def illegalCommand (s : State) : Host.Outcome State Fault Refusal := settle s (.error (trap .illegal 0 0 0))

/-- `s` with `cmd` captured as the command the very next step runs; the host's pending moves are dropped, since a reset or
a `STATUS` read among them could come first (log entry 1). -/
def presentCommand (s : State) (cmd : Command) : State := { s with current := cmd, busy := true, host := [] }

end Sys2Proof.Machine
end

