-- ==== Sys2Proof/Machine/Step.lean ====
section
/-! DEFINITION. One step of the machine: the host's next move, the captured command, or nothing (log entry 1). -/

namespace Sys2Proof.Machine

/-- One step. -/
def step (s : State) : Host.Outcome State Fault Refusal :=
  match nextEvent s with
  | .host m rest => takeMove m rest s
  | .command =>
    match decode s.current with
    | .ok i => exec i s
    | .error _ => illegalCommand s
  | .quiet => .next s

/-- `s` with the command whose table bits are `w` as the one the very next step runs. -/
def State.withFetchWord (s : State) (nbits w : Nat) : State := presentCommand s (tableCommand nbits w)

end Sys2Proof.Machine
end

