-- ==== Sys2Proof/Safety.lean ====
section
/-! DEFINITION. The vocabulary of claims: the invariant of a state, what each command may write and which faults it may
take, and what a stored element denotes. -/

namespace Sys2Proof

/-! What a stored element denotes -/

/-- The field value a stored element denotes: `v · R^-1 mod N` (00_scope.md R13). -/
def Cfg.denote (c : Cfg) (v : U256) : ZMod c.n.toNat := (v.toNat : ZMod c.n.toNat) * ((2 ^ 256 : Nat) : ZMod c.n.toNat)⁻¹

/-- `m(x) = x · R mod N`, the Montgomery form of an integer (41_montgomery.md, opening text). -/
def Cfg.mont (c : Cfg) (x : Nat) : U256 := BitVec.ofNat 256 (x * 2 ^ 256 % c.n.toNat)

end Sys2Proof

namespace Sys2Proof.Machine

/-! The invariant -/

/-- An entry of the job table keeps the bounds of its fields (10_state.md R39). -/
structure JobEntry.Ok (c : Cfg) (e : JobEntry) : Prop where
  pow2 : isPow2 e.data.length = true
  fits : e.data.length ≤ c.jMaxLen
  side : e.kind = .job → e.side = false

/-- A descriptor keeps the bounds of its fields (10_state.md R40). -/
structure Poly.Ok (c : Cfg) (p : Poly) : Prop where
  pow2 : isPow2 p.degree = true
  fits : p.degree ≤ c.pMaxDeg
  present : p.coef.isSome = true ∨ p.point.isSome = true
  coef : ∀ v, p.coef = some v → v.length = p.degree
  point : ∀ v, p.point = some v → v.length = p.degree

/-- The invariant of a state: memory in canonical form and inside `VM`, table fields in their bounds, and the fault bit,
the cause and `BUSY` consistent (10_state.md R27, R28, R39, R40, R42; 60_exceptions.md R301, R306). -/
structure State.Inv (s : State) : Prop where
  memory_wf : Memory.wf s.vm = true
  memory_fits : ∀ c ∈ s.vm, c.1 < 32 * s.cfg.vmSize
  jobs : ∀ j e, s.getJob j = some e → e.Ok s.cfg
  polys : ∀ p q, s.getPoly p = some q → q.Ok s.cfg
  fault_iff : s.fault = true ↔ s.frec.cause ≠ 0
  cause_le : s.frec.cause.toNat ≤ 15
  not_both : s.fault = true → s.busy = false

/-! What a command may write -/

/-- The element register a command writes: `fd` (42_field_element.md R186). -/
def destReg : Instr → Option RegIdx
  | .lde fd _ | .ldi fd _ | .rdw fd _ | .uclr fd | .umov fd _ | .uadd fd _ _ | .usub fd _ _ | .uneg fd _
  | .umul256 fd _ _ | .monpro fd _ _ | .monadd fd _ _ | .monsub fd _ _ | .tomont fd _ | .frommont fd _ | .fzero fd
  | .fone fd | .fsqr fd _ | .fneg fd _ | .finv fd _ | .frand fd | .frands fd _ _ | .froot fd _ _ | .ffromcan fd _
  | .ftocan fd _ | .peval fd _ _ => some fd
  | _ => none

/-- Where a command stores: the first slot and the number of slots, from the state it starts in (46_data_movement_system.md
R295). -/
def storeRange (i : Instr) (s : State) : Option (Nat × Nat) :=
  match i with
  | .ste _ addr => some (addr.toNat, 1)
  | .fftrec _ dst len | .fftr2 _ _ dst len | .fft4 _ _ _ dst len | .ifft _ dst len => some (dst.toNat, len.toNat)
  | .jst js dst => (s.getJob js).map fun e => (dst.toNat, e.data.length)
  | .pstc pa dst | .pstp pa dst => (s.getPoly pa).map fun p => (dst.toNat, p.degree)
  | _ => none

/-- The commands that write `C` (10_state.md R26). -/
def writesC : Instr → Bool
  | .uadd _ _ _ | .usub _ _ _ => true
  | _ => false

/-- The commands that write `S` (10_state.md R26). -/
def writesS : Instr → Bool
  | .uadd _ _ _ | .usub _ _ _ | .uneg _ _ => true
  | _ => false

/-- The commands that write `Z` (10_state.md R26). -/
def writesZ : Instr → Bool
  | .ueq _ _ | .feq _ _ | .fisz _ | .jfind _ => true
  | _ => false

/-- The command that writes `W` (10_state.md R23). -/
def writesW : Instr → Bool
  | .umul512 _ _ => true
  | _ => false

/-- The commands that write `RES0..2` (10_state.md R29). -/
def writesRes : Instr → Bool
  | .jfind _ | .jrun _ | .jqry _ | .pqry _ => true
  | _ => false

/-- The commands that may change job slot `j` (44_job_merge.md). -/
def writesJob (i : Instr) (s : State) (j : Nat) : Bool :=
  match i with
  | .jnew js _ _ _ | .jfft js | .jfree js => j == js.toNat
  | .jfork jd js target =>
    match s.getJob js with
    | some e => decide (jd.toNat ≤ j) && decide (j < jd.toNat + 2 ^ (e.data.length.log2 - target.toNat.log2))
    | none => false
  | .jmerge js jo => j == js.toNat || j == jo.toNat
  | .jrun jobId => ((s.jt[j]?.getD none).map (·.jobId)) == some jobId
  | _ => false

/-- The commands that may change descriptor `p` (45_polynomial.md). -/
def writesPoly (i : Instr) (p : Nat) : Bool :=
  match i with
  | .pnew pd _ _ | .pnewp pd _ _ | .pext pd _ | .pcoef pd | .ppoint pd | .pfree pd => p == pd.toNat
  | .padd pd pa pb | .pmul pd pa pb => p == pd.toNat || p == pa.toNat || p == pb.toNat
  | .peval _ pa _ | .pstc pa _ | .pstp pa _ => p == pa.toNat
  | _ => false

/-- The commands that may read an entry of `ROOT`, and so may set `RINIT` (10_state.md R37). -/
def mayReadRoots : Instr → Bool
  | .froot _ _ _ | .fftrec _ _ _ | .fftr2 _ _ _ _ | .fft4 _ _ _ _ _ | .ifft _ _ _ | .jfft _ | .jmerge _ _ | .jrun _
  | .pext _ _ | .padd _ _ _ | .pmul _ _ _ | .peval _ _ _ | .pcoef _ | .ppoint _ | .pstc _ _ | .pstp _ _ => true
  | _ => false

/-- The faults a legal command may take (60_exceptions.md R301, column "raised by"). -/
def causesOf : Instr → List Cause
  | .lde _ _ | .ste _ _ => [.vmBounds]
  | .froot _ _ _ => [.rootOrder]
  | .ffromcan _ _ => [.range]
  | .fftrec _ _ _ | .fftr2 _ _ _ _ | .ifft _ _ _ => [.nPow2, .rootOrder, .vmBounds]
  | .fft4 _ _ _ _ _ => [.nPow2, .rootOrder, .shape, .vmBounds]
  | .jnew _ _ _ _ => [.jobState, .nPow2, .capacity, .vmBounds]
  | .jfork _ _ _ => [.jobState, .forkSize, .capacity]
  | .jfft _ => [.jobState, .rootOrder]
  | .jmerge _ _ => [.jobState, .pairKey, .capacity, .rootOrder]
  | .jfind _ => [.noPair]
  | .jrun _ => [.rootOrder, .noPair, .pairKey, .capacity]
  | .jst _ _ => [.jobState, .vmBounds]
  | .pnew _ _ _ => [.polyState, .capacity, .vmBounds]
  | .pnewp _ _ _ => [.polyState, .nPow2, .capacity, .vmBounds]
  | .pext _ _ => [.polyState, .degree, .capacity, .rootOrder]
  | .padd _ _ _ => [.polyState, .rootOrder]
  | .pmul _ _ _ => [.polyState, .capacity, .rootOrder]
  | .peval _ _ _ | .pcoef _ | .ppoint _ => [.polyState, .rootOrder]
  | .pstc _ _ | .pstp _ _ => [.polyState, .rootOrder, .vmBounds]
  | _ => []

/-! Polynomials -/

/-- The coefficients of the product of two polynomials, `len` of them: `coef[k] = Σ_(i+j=k) a[i] · b[j]`
(45_polynomial.md R270). -/
def convolve (c : Cfg) (len : Nat) (a b : List U256) : List U256 :=
  (List.range len).map fun k =>
    ((List.range (k + 1)).map fun i => monPro c (a.getD i 0) (b.getD (k - i) 0)).foldl (monAdd c) 0

/-- A polynomial's coefficients, zero-padded to `d` of them (45_polynomial.md R265). -/
def Poly.padded (c : Cfg) (d : Nat) (p : Poly) : List U256 := p.coefVec c ++ List.replicate (d - p.degree) 0

/-- A source of `PADD` after it was extended to degree `d` and its coefficients forced (45_polynomial.md R265, R268). -/
def Poly.stretch (c : Cfg) (d : Nat) (p : Poly) : Poly :=
  if p.degree = d then { p with coef := some (p.coefVec c) } else ⟨d, some (p.padded c d), none⟩

/-! The job table as 44_job_merge.md R243 speaks of it -/

/-- `JT[j]` is a MergeJob with this `job_id`. -/
def isMergeSlot (s : State) (id : Word) (j : Nat) : Bool :=
  match s.jt[j]?.getD none with
  | some e => e.kind == .mergeJob && e.jobId == id
  | none => false

/-- `JT[j]` is a Job with this `job_id`. -/
def isJobSlot (s : State) (id : Word) (j : Nat) : Bool :=
  match s.jt[j]?.getD none with
  | some e => e.kind == .job && e.jobId == id
  | none => false

/-- `|M|`. -/
def mergeCount (s : State) (id : Word) : Nat := ((List.range 64).filter (isMergeSlot s id)).length

/-- `(i, j)` is in `P`. -/
def isPair (s : State) (id : Word) (i j : Nat) : Prop :=
  i < j ∧ j < 64 ∧ isMergeSlot s id i = true ∧ isMergeSlot s id j = true ∧
    ∃ a b, s.jt[i]?.getD none = some a ∧ s.jt[j]?.getD none = some b ∧ a.pathId = b.pathId ∧ a.side ≠ b.side

/-! Free values -/

/-- `len` free values, counted from `n` (93_implementation_defined.md U1, log entry 3). -/
def freeVec (n len : Nat) : List U256 := (List.range len).map fun i => Config.anyElement (n + i)

/-- A job entry with every element 0: its tags and its length (44_job_merge.md R245). -/
def JobEntry.shape (e : JobEntry) : JobEntry := { e with data := e.data.map fun _ => 0 }

/-- A state with every element of the job table 0 and no count of draws: what `JRUN`'s course may depend on (R245). -/
def State.shape (s : State) : State := { s with jt := s.jt.map (Option.map JobEntry.shape), draws := 0 }

/-! Descriptors whose forms agree -/

/-- A descriptor's elements are reduced, and where both forms are present the points are the transform of the coefficients
(10_state.md R41). -/
def Poly.Faithful (c : Cfg) (p : Poly) : Prop :=
  (∀ v, p.coef = some v → allReduced c v = true) ∧ (∀ v, p.point = some v → allReduced c v = true) ∧
    ∀ u v, p.coef = some u → p.point = some v → v = recFft c p.degree.log2 u

/-- Every valid descriptor is faithful. -/
def State.PolysFaithful (s : State) : Prop := ∀ p q, s.getPoly p = some q → q.Faithful s.cfg

/-- What a command reads from `VM` as elements is reduced where it creates a polynomial (70_reset_and_hazards.md R356). -/
def createsReduced (i : Instr) (s : State) : Prop :=
  match i with
  | .pnew _ src count => allReduced s.cfg (s.memRead src.toNat count.toNat) = true
  | .pnewp _ src len => allReduced s.cfg (s.memRead src.toNat len.toNat) = true
  | .peval _ _ fx => isReduced s.cfg (s.getF fx) = true
  | _ => True

/-- The commands of families 0x2_ and 0x3_ (30_encoding.md R108). -/
def isFieldCommand (i : Instr) : Bool := decide (0x20 ≤ i.opcode.toNat) && decide (i.opcode.toNat < 0x40)

/-- Every element register holds a reduced value (10_state.md R22). -/
def State.RegistersReduced (s : State) : Prop := ∀ r, isReduced s.cfg (s.getF r) = true

end Sys2Proof.Machine
end

