-- ==== Sys2Proof/Certificates/Slice0/Obligations.lean ====
section
/-! DEFINITION. The statements for the provers. A command's result is given as its whole next state, a record update of the
state before it: what the update does not name is unchanged. Where a statement rests on a convention of the model and not
on a rule, its docstring names the log entry. -/

open Sys2Proof Sys2Proof.Machine

/-! Encoding (30_encoding.md) -/

/-- Decoding the word of a well-formed command gives the command (R101 to R109). -/
def Obligations.DecodeInvertsEncode : Prop :=
  ∀ i : Instr, i.wf = true → decode (encode i) = .ok i

/-- A word that decodes is the word of the one well-formed command it decodes to: no bit is ignored (R106, R107). -/
def Obligations.EncodeInvertsDecode : Prop :=
  ∀ (cmd : Command) (i : Instr), decode cmd = .ok i → i.wf = true ∧ encode i = cmd

/-- The words the decoder accepts are the words the rows of spec/opcode_table.json accept, each by one row, and the
command has the row's opcode (30_encoding.md, opening text; R107); and the fields of every command's word: the opcode R109
gives it, its operands in the fields of its format, every other field zero (R101, R102, R106, R109). -/
def Obligations.DecodeAgreesWithTheTable : Prop :=
  (∀ cmd i, decode cmd = .ok i → ∃ r ∈ tableRows, cmd &&& r.mask = r.pattern) ∧
  (∀ cmd, ∀ r ∈ tableRows, cmd &&& r.mask = r.pattern →
    ∃ i, decode cmd = .ok i ∧ i.opcode = r.pattern.extractLsb' 0 8) ∧
  (tableRows.Pairwise fun r q => ∀ cmd : Command, cmd &&& r.mask = r.pattern → cmd &&& q.mask ≠ q.pattern) ∧
  (∀ i : Instr, (Fields.ofCommand (encode i)).op = i.opcode) ∧
  ∀ i : Instr, Fields.ofCommand (encode i) = match i with
    | .nop => ⟨0x00, 0, 0, 0, 0, 0, 0⟩
    | .lde fd addr => ⟨0x01, fd, 0, 0, addr, 0, 0⟩
    | .ste fa addr => ⟨0x02, 0, fa, 0, addr, 0, 0⟩
    | .ldi fd imm => ⟨0x03, fd, 0, 0, imm, 0, 0⟩
    | .rdw fd half => ⟨0x04, fd, 0, half, 0, 0, 0⟩
    | .uclr fd => ⟨0x10, fd, 0, 0, 0, 0, 0⟩
    | .umov fd fa => ⟨0x11, fd, fa, 0, 0, 0, 0⟩
    | .uadd fd fa fb => ⟨0x12, fd, fa, fb, 0, 0, 0⟩
    | .usub fd fa fb => ⟨0x13, fd, fa, fb, 0, 0, 0⟩
    | .uneg fd fa => ⟨0x14, fd, fa, 0, 0, 0, 0⟩
    | .umul256 fd fa fb => ⟨0x15, fd, fa, fb, 0, 0, 0⟩
    | .umul512 fa fb => ⟨0x16, 0, fa, fb, 0, 0, 0⟩
    | .ueq fa fb => ⟨0x17, 0, fa, fb, 0, 0, 0⟩
    | .monpro fd fa fb => ⟨0x20, fd, fa, fb, 0, 0, 0⟩
    | .monadd fd fa fb => ⟨0x21, fd, fa, fb, 0, 0, 0⟩
    | .monsub fd fa fb => ⟨0x22, fd, fa, fb, 0, 0, 0⟩
    | .tomont fd fa => ⟨0x23, fd, fa, 0, 0, 0, 0⟩
    | .frommont fd fa => ⟨0x24, fd, fa, 0, 0, 0, 0⟩
    | .fzero fd => ⟨0x30, fd, 0, 0, 0, 0, 0⟩
    | .fone fd => ⟨0x31, fd, 0, 0, 0, 0, 0⟩
    | .fsqr fd fa => ⟨0x32, fd, fa, 0, 0, 0, 0⟩
    | .fneg fd fa => ⟨0x33, fd, fa, 0, 0, 0, 0⟩
    | .finv fd fa => ⟨0x34, fd, fa, 0, 0, 0, 0⟩
    | .frand fd => ⟨0x35, fd, 0, 0, 0, 0, 0⟩
    | .frands fd x y => ⟨0x36, fd, 0, 0, x, y, 0⟩
    | .froot fd x y => ⟨0x37, fd, 0, 0, x, y, 0⟩
    | .ffromcan fd fa => ⟨0x38, fd, fa, 0, 0, 0, 0⟩
    | .ftocan fd fa => ⟨0x39, fd, fa, 0, 0, 0, 0⟩
    | .feq fa fb => ⟨0x3A, 0, fa, fb, 0, 0, 0⟩
    | .fisz fa => ⟨0x3B, 0, fa, 0, 0, 0, 0⟩
    | .fftrec src dst len => ⟨0x40, 0, 0, 0, src, dst, len⟩
    | .fftr2 fw src dst len => ⟨0x41, 0, fw, 0, src, dst, len⟩
    | .fft4 logRows logCols src dst len => ⟨0x42, 0, logRows, logCols, src, dst, len⟩
    | .ifft src dst len => ⟨0x43, 0, 0, 0, src, dst, len⟩
    | .jnew js src len jobId => ⟨0x50, js, 0, 0, src, len, jobId⟩
    | .jfork jd js target => ⟨0x51, jd, js, 0, target, 0, 0⟩
    | .jfft js => ⟨0x52, js, 0, 0, 0, 0, 0⟩
    | .jmerge js jo => ⟨0x53, js, jo, 0, 0, 0, 0⟩
    | .jfind jobId => ⟨0x54, 0, 0, 0, jobId, 0, 0⟩
    | .jrun jobId => ⟨0x55, 0, 0, 0, jobId, 0, 0⟩
    | .jst js dst => ⟨0x56, 0, js, 0, dst, 0, 0⟩
    | .jfree js => ⟨0x57, js, 0, 0, 0, 0, 0⟩
    | .jqry js => ⟨0x58, 0, js, 0, 0, 0, 0⟩
    | .pnew pd src count => ⟨0x60, pd, 0, 0, src, count, 0⟩
    | .pnewp pd src len => ⟨0x61, pd, 0, 0, src, len, 0⟩
    | .pext pd newDegree => ⟨0x62, pd, 0, 0, newDegree, 0, 0⟩
    | .padd pd pa pb => ⟨0x63, pd, pa, pb, 0, 0, 0⟩
    | .pmul pd pa pb => ⟨0x64, pd, pa, pb, 0, 0, 0⟩
    | .peval fd pa fx => ⟨0x65, fd, pa, fx, 0, 0, 0⟩
    | .pcoef pd => ⟨0x66, pd, 0, 0, 0, 0, 0⟩
    | .ppoint pd => ⟨0x67, pd, 0, 0, 0, 0, 0⟩
    | .pstc pa dst => ⟨0x68, 0, pa, 0, dst, 0, 0⟩
    | .pstp pa dst => ⟨0x69, 0, pa, 0, dst, 0, 0⟩
    | .pfree pd => ⟨0x6A, pd, 0, 0, 0, 0, 0⟩
    | .pqry pa => ⟨0x6B, 0, pa, 0, 0, 0, 0⟩

/-- Words written out in 96_test_vectors_families.md V12 decode to the commands beside them there. -/
def Obligations.VectorWordsDecode : Prop :=
  decode (joinWords 0 0 0 0) = .ok .nop ∧
  decode (joinWords 0x00000301 5 0 0) = .ok (.lde 3 5) ∧
  decode (joinWords 0x02010012 0 0 0) = .ok (.uadd 0 1 2) ∧
  decode (joinWords 0x02010320 0 0 0) = .ok (.monpro 3 1 2) ∧
  decode (joinWords 0x00000037 0 0x40000000 0) = .ok (.froot 0 0 0x40000000) ∧
  decode (joinWords 0x02010042 0 8 8) = .ok (.fft4 1 2 0 8 8) ∧
  decode (joinWords 0x00000050 0 4 9) = .ok (.jnew 0 0 4 9) ∧
  decode (joinWords 0x01000065 0 0 0) = .ok (.peval 0 0 1) ∧
  decode (joinWords 0x02011012 0 0 0) = .error .indexRange ∧
  decode (joinWords 0x03010211 0 0 0) = .error .unusedField ∧
  decode (joinWords 0x00000005 0 0 0) = .error .unassignedOpcode

/-! Steps, the host, reset -/

/-- A step whose event is the running command runs the command the captured word decodes to; that is the event of every
busy state whose host has no move that may come first (R107; 20_memory.md R78, R82). That a move other than a reset or a read
of `STATUS` waits until the command has ended (third clause) is the model's choice, log entry 8: R78 and
93_implementation_defined.md U8 say that a model has no such move. -/
def Obligations.StepRunsTheDecodedCommand : Prop :=
  (∀ s i, nextEvent s = .command → decode s.current = .ok i → step s = exec i s) ∧
  (∀ s, s.busy = true → s.host = [] → nextEvent s = .command) ∧
  (∀ s m rest, s.busy = true → s.host = m :: rest → m ≠ .reset → isStatusRead s.cfg m = false → nextEvent s = .command) ∧
  (∀ (s : State) (i : Instr), s.busy = true → s.host = [] → s.current = encode i → i.wf = true → step s = exec i s)

/-- A captured word that is the word of no well-formed command faults `ILLEGAL` and changes nothing else (R107, R110). -/
def Obligations.IllegalWordsFault : Prop :=
  ∀ s : State, nextEvent s = .command → (∀ i : Instr, i.wf = true → encode i ≠ s.current) →
    step s = .next { s with
      fault := true
      busy := false
      frec := ⟨1, 0, 0, 0, s.current.extractLsb' 0 32, s.current.extractLsb' 32 32, s.current.extractLsb' 64 32,
        s.current.extractLsb' 96 32⟩ }

/-- What the host's writes to `CMD0..3` do (10_state.md R44). `draws` is the model's count of free values (log entry 7). That
`CMD0`, `CMD1` and `CMD2` take the word with `FAULT` 1 too is the model's reading of R44, log entry 13. -/
def Obligations.CommandIssue : Prop :=
  (∀ s rest v, s.busy = false → s.host = .regWrite 0x800 v :: rest → step s = .next { s with host := rest, cmd0 := v }) ∧
  (∀ s rest v, s.busy = false → s.host = .regWrite 0x801 v :: rest → step s = .next { s with host := rest, cmd1 := v }) ∧
  (∀ s rest v, s.busy = false → s.host = .regWrite 0x802 v :: rest → step s = .next { s with host := rest, cmd2 := v }) ∧
  (∀ s rest v, s.busy = false → s.fault = false → s.host = .regWrite 0x803 v :: rest →
    step s = .next { s with host := rest, current := v ++ s.cmd2 ++ s.cmd1 ++ s.cmd0, busy := true, draws := s.draws + 1 }) ∧
  (∀ s rest v, s.busy = false → s.fault = true → s.host = .regWrite 0x803 v :: rest →
    step s = .next { s with host := rest }) ∧
  ∀ s v, s.busy = true ∨ s.fault = true → csrWrite s 0x803 v = s

/-- The register map as the host reads it, and that a write outside `CMD0..3` does nothing (10_state.md R43, with R26
to R29, R31, R34, R21, R23); a step whose host move is a read delivers the word of the map in `rdata` (R47), and one whose
move is such a write changes nothing. -/
def Obligations.RegisterMap : Prop :=
  ∀ s : State,
    csrRead s 0x000 = BitVec.ofNat 32 (s.busy.toNat + 2 * s.fault.toNat + 4 * s.rinit.toNat) ∧
    csrRead s 0x001 = BitVec.ofNat 32 (s.flagC.toNat + 2 * s.flagS.toNat + 4 * s.flagZ.toNat) ∧
    csrRead s 0x002 = s.cseq ∧ csrRead s 0x003 = s.frec.cause ∧
    csrRead s 0x004 = s.frec.info0 ∧ csrRead s 0x005 = s.frec.info1 ∧ csrRead s 0x006 = s.frec.info2 ∧
    csrRead s 0x008 = s.frec.cmd0 ∧ csrRead s 0x009 = s.frec.cmd1 ∧ csrRead s 0x00a = s.frec.cmd2 ∧
    csrRead s 0x00b = s.frec.cmd3 ∧
    csrRead s 0x00c = s.res0 ∧ csrRead s 0x00d = s.res1 ∧ csrRead s 0x00e = s.res2 ∧
    csrRead s 0x010 = BitVec.ofNat 8 s.cfg.maxLog ++ 8#8 ++ 64#8 ++ 16#8 ∧
    csrRead s 0x011 = 0#8 ++ BitVec.ofNat 8 s.cfg.pMaxDeg.log2 ++ BitVec.ofNat 8 s.cfg.jMaxLen.log2 ++
      BitVec.ofNat 8 s.cfg.vmSize.log2 ∧
    (∀ i, i < 8 → csrRead s (0x020 + i) = limb s.cfg.n i ∧ csrRead s (0x028 + i) = limb s.cfg.negN i ∧
      csrRead s (0x030 + i) = limb s.cfg.r2 i ∧ csrRead s (0x038 + i) = limb s.cfg.r3 i ∧
      csrRead s (0x040 + i) = limb s.cfg.oneM i) ∧
    csrRead s 0x048 = s.cfg.ninv0 ∧
    (∀ k i, k < 63 → i < 8 → csrRead s (0x100 + 8 * k + i) = if k ≤ s.cfg.maxLog then limb (s.cfg.rootAt k) i else 0) ∧
    (∀ r i, r < 16 → i < 8 → csrRead s (0x400 + 8 * r + i) = limb (s.f[r]?.getD 0) i) ∧
    (∀ i, i < 16 → csrRead s (0x480 + i) = s.w.extractLsb' (32 * i) 32) ∧
    (∀ n, n = 0x007 ∨ n = 0x00f ∨ 0x012 ≤ n ∧ n < 0x020 ∨ 0x049 ≤ n ∧ n < 0x100 ∨ 0x2f8 ≤ n ∧ n < 0x400 ∨ 0x490 ≤ n →
      csrRead s n = 0) ∧
    (∀ n v, n ≠ 0x800 → n ≠ 0x801 → n ≠ 0x802 → n ≠ 0x803 → csrWrite s n v = s ∧
      ∀ rest, s.busy = false → s.host = .regWrite n v :: rest → step s = .next { s with host := rest }) ∧
    ∀ n rest, s.busy = false → s.host = .regRead n :: rest → step s = .next { s with host := rest, rdata := csrRead s n }

/-- CSR `n` is the word at `CSR_BASE + 4n`, limb `i` of slot `e` the word at `VM_BASE + 32e + 4i` (20_memory.md R76): a step
whose host move is a bus access there is the step of the register port's or the memory port's access. The model's choices:
how far the register window reaches (log entry 13), addresses without a bound (log entry 23), and that an access which is no
aligned word is refused and one outside both windows faults (93_implementation_defined.md U7, log entry 9). -/
def Obligations.BusAddresses : Prop :=
  ∀ c : Cfg, c.WellFormed →
    (∀ n, n < csrCount → busTarget c (c.csrBase + 4 * n) = .csr n) ∧
    (∀ e i, e < c.vmSize → i < 8 → busTarget c (c.vmBase + 32 * e + 4 * i) = .vm e i) ∧
    ∀ (s : State) (rest : List HostMove), s.cfg = c → s.busy = false →
      (∀ n, n < csrCount →
        (s.host = .busRead (c.csrBase + 4 * n) 32 :: rest → step s = step { s with host := .regRead n :: rest }) ∧
        ∀ v, s.host = .busWrite (c.csrBase + 4 * n) 32 v :: rest → step s = step { s with host := .regWrite n v :: rest }) ∧
      (∀ e i, e < c.vmSize → i < 8 →
        (s.host = .busRead (c.vmBase + 32 * e + 4 * i) 32 :: rest → step s = step { s with host := .memRead e i :: rest }) ∧
        ∀ v, s.host = .busWrite (c.vmBase + 32 * e + 4 * i) 32 v :: rest →
          step s = step { s with host := .memWrite e i v :: rest }) ∧
      (∀ addr width, width ≠ 32 ∨ addr % 4 ≠ 0 →
        (s.host = .busRead addr width :: rest → step s = .refused (.hostAccessNotAWord addr width)) ∧
        ∀ v, s.host = .busWrite addr width v :: rest → step s = .refused (.hostAccessNotAWord addr width)) ∧
      ∀ addr, addr % 4 = 0 → addr < c.csrBase ∨ c.csrBase + 4 * csrCount ≤ addr →
        addr < c.vmBase ∨ c.vmBase + 32 * c.vmSize ≤ addr →
        (s.host = .busRead addr 32 :: rest → step s = .fault (.hostAddressAbsent addr)) ∧
        ∀ v, s.host = .busWrite addr 32 v :: rest → step s = .fault (.hostAddressAbsent addr)

/-- An element written by the host limb by limb, in any order, is the element a command then reads; the other slots are
untouched; and a limb read back is the limb of the slot (20_memory.md R73, R75, R76). A step whose host move is such a write
writes that limb, and one whose move is such a read delivers it in `rdata`; on a slot or limb that does not exist the step
stops, the model's choice for 93_implementation_defined.md U7 (log entry 9). -/
def Obligations.HostLimbsMakeASlot : Prop :=
  (∀ (s : State) (e : Nat) (v : U256) (order : List Nat), order.Perm (List.range 8) →
    (order.foldl (fun t i => t.writeLimb e i (limb v i)) s).vmSlot e = v ∧
    ∀ e', e' ≠ e → (order.foldl (fun t i => t.writeLimb e i (limb v i)) s).vmSlot e' = s.vmSlot e') ∧
  (∀ (s : State) (e i : Nat), i < 8 → s.vmLimb e i = limb (s.vmSlot e) i) ∧
  ∀ (s : State) (e i : Nat) (rest : List HostMove), s.busy = false →
    (e < s.cfg.vmSize → i < 8 →
      (s.host = .memRead e i :: rest → step s = .next { s with host := rest, rdata := limb (s.vmSlot e) i }) ∧
      ∀ v, s.host = .memWrite e i v :: rest → step s = .next { s.writeLimb e i v with host := rest }) ∧
    (s.cfg.vmSize ≤ e ∨ 8 ≤ i →
      (s.host = .memRead e i :: rest → step s = .fault (.hostAddressAbsent (32 * e + 4 * i))) ∧
      ∀ v, s.host = .memWrite e i v :: rest → step s = .fault (.hostAddressAbsent (32 * e + 4 * i)))

/-- `VM` returns what was last written, and a write changes no slot outside its range (20_memory.md R71, R72). -/
def Obligations.VectorMemoryReadsBack : Prop :=
  ∀ (s : State) (addr : Nat) (vs : List U256),
    (s.memWrite addr vs).memRead addr vs.length = vs ∧
    (∀ e, e < addr ∨ addr + vs.length ≤ e → (s.memWrite addr vs).vmSlot e = s.vmSlot e) ∧
    (Memory.wf s.vm = true → Memory.wf (s.memWrite addr vs).vm = true)

/-- Reset, from any state, a running command included: every piece of state of 10_state.md R45, the modulus check, and
the configuration as it was (70_reset_and_hazards.md R340, R342, R343, R344; 60_exceptions.md R312). Two clauses are the
model's choice: `VM`, which R45 leaves unspecified, lists nothing, so that every byte is a free value (log entry 5), and the
host's moves after the reset stay pending (log entries 1 and 11). -/
def Obligations.ResetRestoresTheState : Prop :=
  ∀ (s : State) (rest : List HostMove), s.host = .reset :: rest →
    ∃ t, step s = .next t ∧ t.cfg = s.cfg ∧ t.f = Vector.replicate 16 0 ∧ t.w = 0 ∧
      t.flagC = false ∧ t.flagS = false ∧ t.flagZ = false ∧ t.cseq = 0 ∧ t.busy = false ∧ t.rinit = false ∧
      t.res0 = 0 ∧ t.res1 = 0 ∧ t.res2 = 0 ∧ t.cmd0 = 0 ∧ t.cmd1 = 0 ∧ t.cmd2 = 0 ∧
      (∀ j, t.getJob j = none) ∧ (∀ p, t.getPoly p = none) ∧ t.vm = [] ∧ t.host = rest ∧
      (s.cfg.n.toNat < 2 ^ 255 → t.fault = false ∧ t.frec = ⟨0, 0, 0, 0, 0, 0, 0, 0⟩ ∧ t.idle = true) ∧
      (2 ^ 255 ≤ s.cfg.n.toNat → t.fault = true ∧ t.frec = ⟨6, limb s.cfg.n 7, 0, 0, 0, 0, 0, 0⟩ ∧
        ∀ v, csrWrite t 0x803 v = t)

/-- After a fault nothing but reset clears the fault state: every other step leaves the fault, its record and all the
state commands write, `VM` apart, which the host may still write (60_exceptions.md R307). -/
def Obligations.FaultStaysUntilReset : Prop :=
  ∀ s t : State, s.fault = true → s.busy = false → (∀ rest, s.host ≠ .reset :: rest) → step s = .next t →
    t.fault = true ∧ t.busy = false ∧ t.frec = s.frec ∧ t.cseq = s.cseq ∧ t.f = s.f ∧ t.w = s.w ∧ t.flagC = s.flagC ∧
    t.flagS = s.flagS ∧ t.flagZ = s.flagZ ∧ t.rinit = s.rinit ∧ t.res0 = s.res0 ∧ t.res1 = s.res1 ∧ t.res2 = s.res2 ∧
    t.jt = s.jt ∧ t.pd = s.pd ∧ t.current = s.current

/-- While a command runs, a step that is not a reset either ends the command or answers one of the host's reads of
`STATUS` with `BUSY` set and changes nothing of the CORE; an idle or faulted CORE without a host move holds its state
(20_memory.md R78; 60_exceptions.md R325). How many such reads come first is a free value (log entry 7); that any other move
waits until the command has ended is the model's choice (log entry 8; 93_implementation_defined.md U8). -/
def Obligations.HostAndCoreTakeTurns : Prop :=
  (∀ s : State, s.busy = true → (∀ rest, s.host ≠ .reset :: rest) →
    ((∃ i, decode s.current = .ok i ∧ step s = exec i s) ∨ (∃ e, decode s.current = .error e ∧ step s = illegalCommand s)) ∨
    ∃ m rest, s.host = m :: rest ∧ isStatusRead s.cfg m = true ∧
      step s = .next { s with host := rest, rdata := statusWord s, draws := s.draws + 1 }) ∧
  ∀ s : State, s.busy = false → s.host = [] → step s = .next s

/-! Completion, faults, what a command may change -/

/-- Every command completes, counting in `CSEQ`, or takes a precise fault that changes the fault record, `FAULT` and
`BUSY` and nothing else; no command raises `WIDTH` or `MODULUS` (60_exceptions.md R306, R313, R314; 10_state.md R25). -/
def Obligations.CommandsCompleteOrFaultPrecisely : Prop :=
  ∀ (i : Instr) (s : State), ∃ t, exec i s = .next t ∧
    ((t.cseq = s.cseq + 1 ∧ t.busy = false ∧ t.fault = s.fault ∧ t.frec = s.frec ∧ t.cmd0 = s.cmd0 ∧ t.cmd1 = s.cmd1 ∧
        t.cmd2 = s.cmd2 ∧ t.current = s.current ∧ t.host = s.host ∧ t.rdata = s.rdata ∧ t.epoch = s.epoch ∧ t.cfg = s.cfg) ∨
      ∃ tr : Trap, tr.cause ≠ .width ∧ tr.cause ≠ .modulus ∧
        t = { s with
          fault := true
          busy := false
          frec := ⟨tr.cause.code, tr.info0, tr.info1, tr.info2, s.current.extractLsb' 0 32, s.current.extractLsb' 32 32,
            s.current.extractLsb' 64 32, s.current.extractLsb' 96 32⟩ })

/-- A command takes only the faults whose row names it (60_exceptions.md R301). -/
def Obligations.FaultsAreTheListedOnes : Prop :=
  ∀ (i : Instr) (s t : State), s.fault = false → exec i s = .next t → t.fault = true →
    ∃ c ∈ causesOf i, t.frec.cause = c.code

/-- No step changes the configuration (10_state.md R30; 70_reset_and_hazards.md R344), and every step keeps the invariant of
Safety.lean. -/
def Obligations.StepKeepsTheInvariant : Prop :=
  ∀ s t : State, step s = .next t → t.cfg = s.cfg ∧ (s.Inv → t.Inv)

/-- The state after reset meets the invariant, and so does the one after any reset. -/
def Obligations.ResetMeetsTheInvariant : Prop :=
  State.reset.Inv ∧ ∀ s : State, (resetCore s).Inv

/-- A command changes no element register but its `fd` (42_field_element.md R186), only the commands of 10_state.md R26, R23
and R29 write `C`, `S`, `Z`, `W` and `RES0..2`, and a faulting command writes none of them (60_exceptions.md R306). -/
def Obligations.RegisterFlagAndResultWriters : Prop :=
  ∀ (i : Instr) (s t : State), exec i s = .next t →
    (∀ r, destReg i ≠ some r → t.getF r = s.getF r) ∧
    (writesC i = false → t.flagC = s.flagC) ∧ (writesS i = false → t.flagS = s.flagS) ∧
    (writesZ i = false → t.flagZ = s.flagZ) ∧ (writesW i = false → t.w = s.w) ∧
    (writesRes i = false → t.res0 = s.res0 ∧ t.res1 = s.res1 ∧ t.res2 = s.res2) ∧
    (s.fault = false → t.fault = true → t.f = s.f ∧ t.flagC = s.flagC ∧ t.flagS = s.flagS ∧ t.flagZ = s.flagZ ∧
      t.w = s.w ∧ t.res0 = s.res0 ∧ t.res1 = s.res1 ∧ t.res2 = s.res2)

/-- Only the slots and descriptors a command names change, and `RINIT` is set only by a command that may read the root
table and never cleared by a command (44_job_merge.md R230, 45_polynomial.md R260, 10_state.md R37). -/
def Obligations.TableWriters : Prop :=
  ∀ (i : Instr) (s t : State), i.wf = true → exec i s = .next t →
    (∀ j, j < 64 → writesJob i s j = false → t.jt[j]? = s.jt[j]?) ∧
    (∀ p, p < 8 → writesPoly i p = false → t.pd[p]? = s.pd[p]?) ∧
    (s.rinit = true → t.rinit = true) ∧ (mayReadRoots i = false → t.rinit = s.rinit)

/-- Every byte of `VM` outside the slots a command stores to reads as before; a command that stores nothing, and one
that faults, leaves all of it (46_data_movement_system.md R295; 60_exceptions.md R306). -/
def Obligations.MemoryFrame : Prop :=
  ∀ (i : Instr) (s t : State), s.Inv → exec i s = .next t →
    (storeRange i s = none → ∀ a, t.vmByte a = s.vmByte a) ∧
    (∀ slot count, storeRange i s = some (slot, count) →
      ∀ a, a < 32 * slot ∨ 32 * (slot + count) ≤ a → t.vmByte a = s.vmByte a) ∧
    (s.fault = false → t.fault = true → ∀ a, t.vmByte a = s.vmByte a)

/-! The arithmetic -/

/-- The CIOS algorithm computes the Montgomery product, and so multiplies Montgomery forms (41_montgomery.md R151). -/
def Obligations.CiosComputesTheMontgomeryProduct : Prop :=
  ∀ c : Cfg, c.WellFormed →
    (∀ a b : U256, a.toNat < c.n.toNat → b.toNat < c.n.toNat →
      (monPro c a b).toNat < c.n.toNat ∧
      ∀ rinv, 2 ^ 256 * rinv % c.n.toNat = 1 → (monPro c a b).toNat = a.toNat * b.toNat * rinv % c.n.toNat) ∧
    ∀ x y : Nat, monPro c (c.mont x) (c.mont y) = c.mont (x * y % c.n.toNat)

/-- After every round the accumulator is below `2N` and its limbs are limbs, so limb 8 is 0 (41_montgomery.md R154). -/
def Obligations.CiosAccumulatorStaysBelowTwiceN : Prop :=
  ∀ (c : Cfg) (a b : U256) (rounds : Nat), c.WellFormed → a.toNat < c.n.toNat → rounds ≤ 8 →
    let t := ((limbsOf b).take rounds).foldl (cioRound c (limbsOf a)) Acc.zero
    t.value < 2 * c.n.toNat ∧ t.low.length = 8 ∧ (∀ l ∈ t.low, l < 2 ^ 32) ∧ t.top = 0

/-- The schoolbook loop gives the 16 limbs of the product (40_fixed_width_uint.md R136). -/
def Obligations.SchoolbookLoopGivesTheProduct : Prop :=
  ∀ x y : U256, natOfLimbs (schoolbook x y) = x.toNat * y.toNat ∧ (schoolbook x y).length = 16 ∧
    ∀ l ∈ schoolbook x y, l < 2 ^ 32

/-- The steps of `MonAdd` and `MonSub` give the sum and the difference modulo `N` (41_montgomery.md R157, R159). -/
def Obligations.MonAddMonSubAreModular : Prop :=
  ∀ c : Cfg, c.WellFormed →
    (∀ a b : U256, a.toNat < c.n.toNat → b.toNat < c.n.toNat →
      (monAdd c a b).toNat = (a.toNat + b.toNat) % c.n.toNat ∧
      (monSub c a b).toNat = (a.toNat + (c.n.toNat - b.toNat)) % c.n.toNat) ∧
    ∀ x y : Nat, monAdd c (c.mont x) (c.mont y) = c.mont ((x + y) % c.n.toNat) ∧
      (y ≤ x → monSub c (c.mont x) (c.mont y) = c.mont ((x - y) % c.n.toNat)) ∧
      (x < y → y ≤ c.n.toNat → monSub c (c.mont x) (c.mont y) = c.mont (c.n.toNat - (y - x)))

/-- The laws of the Montgomery family and of the field (41_montgomery.md R163; 42_field_element.md R174). -/
def Obligations.FieldLaws : Prop :=
  ∀ (c : Cfg) (a b d : U256), c.WellFormed → a.toNat < c.n.toNat → b.toNat < c.n.toNat → d.toNat < c.n.toNat →
    fromMont c (toMont c a) = a ∧ monPro c a c.oneM = a ∧ monPro c a b = monPro c b a ∧ monAdd c a b = monAdd c b a ∧
    monPro c a (monAdd c b d) = monAdd c (monPro c a b) (monPro c a d) ∧
    monPro c (monPro c a b) d = monPro c a (monPro c b d) ∧
    monPro c c.r2 c.oneM = c.r2 ∧ monPro c c.r2 c.r2 = c.r3

/-- The inverse unit inverts: the product with the operand is `ONE_M`, twice gives the operand back, zero gives zero; and
the Montgomery form of the inverse of a length is what `lengthInverse` computes (42_field_element.md R177, R178). -/
def Obligations.InverseUnitInverts : Prop :=
  ∀ c : Cfg, c.WellFormed →
    fieldInverse c 0 = 0 ∧
    (∀ a : U256, a.toNat < c.n.toNat → a ≠ 0 →
      (fieldInverse c a).toNat < c.n.toNat ∧ monPro c a (fieldInverse c a) = c.oneM ∧
      fieldInverse c (fieldInverse c a) = a ∧ c.denote (fieldInverse c a) = (c.denote a)⁻¹) ∧
    ∀ k, k ≤ c.maxLog → monPro c (lengthInverse c (2 ^ k)) (c.mont (2 ^ k)) = c.oneM

/-- The root table's properties (10_state.md R35 (a) to (d)) follow from a well-formed configuration. -/
def Obligations.RootTableIsATowerOfPrimitiveRoots : Prop :=
  ∀ c : Cfg, c.WellFormed →
    c.rootAt 0 = c.oneM ∧
    (∀ k, k ≤ c.maxLog → fieldPow c (c.rootAt k) (2 ^ k) = c.oneM) ∧
    (∀ k, 1 ≤ k → k ≤ c.maxLog → (fieldPow c (c.rootAt k) (2 ^ (k - 1))).toNat = c.n.toNat - c.oneM.toNat) ∧
    ∀ k, 1 ≤ k → k ≤ c.maxLog → c.rootAt (k - 1) = monPro c (c.rootAt k) (c.rootAt k)

/-- The recursive algorithm computes the transform (43_fft.md R204). -/
def Obligations.RecursiveTransformIsTheTransform : Prop :=
  ∀ (c : Cfg) (k : Nat) (v : List U256), c.WellFormed → k ≤ c.maxLog → v.length = 2 ^ k → allReduced c v = true →
    recFft c k v = dft c k v ∧ allReduced c (dft c k v) = true ∧
    ∀ i, i < 2 ^ k → c.denote ((dft c k v).getD i 0) =
      ∑ j ∈ Finset.range (2 ^ k), c.denote (v.getD j 0) * c.denote (c.rootAt k) ^ (i * j)

/-- The iterative algorithm with the table's root computes the transform (43_fft.md R207), and with any reduced root its
output is reduced. -/
def Obligations.IterativeTransformIsTheTransform : Prop :=
  ∀ (c : Cfg) (k : Nat) (v : List U256), c.WellFormed → k ≤ c.maxLog → v.length = 2 ^ k → allReduced c v = true →
    radix2Fft c k (c.rootAt k) v = dft c k v ∧
    ∀ w : U256, w.toNat < c.n.toNat → allReduced c (radix2Fft c k w v) = true

/-- The four-step algorithm computes the transform for every factoring (43_fft.md R210). -/
def Obligations.FourStepTransformIsTheTransform : Prop :=
  ∀ (c : Cfg) (a b : Nat) (v : List U256), c.WellFormed → a + b ≤ c.maxLog → v.length = 2 ^ (a + b) →
    allReduced c v = true → fourStep c a b v = dft c (a + b) v

/-- The inverse transform inverts the transform on both sides (43_fft.md R212, R214(a)). -/
def Obligations.InverseTransformInverts : Prop :=
  ∀ (c : Cfg) (k : Nat) (v : List U256), c.WellFormed → k ≤ c.maxLog → v.length = 2 ^ k → allReduced c v = true →
    invFft c k (dft c k v) = v ∧ dft c k (invFft c k v) = v ∧ allReduced c (invFft c k v) = true

/-- Multiplying the point forms of two zero-padded coefficient vectors and transforming back gives their convolution
(45_polynomial.md R270). -/
def Obligations.PointwiseProductIsTheConvolution : Prop :=
  ∀ (c : Cfg) (k : Nat) (a b : List U256), c.WellFormed → k + 1 ≤ c.maxLog → a.length = 2 ^ k → b.length = 2 ^ k →
    allReduced c a = true → allReduced c b = true →
    let pad := fun v : List U256 => v ++ List.replicate (2 ^ k) 0
    invFft c (k + 1) (List.zipWith (monPro c) (recFft c (k + 1) (pad a)) (recFft c (k + 1) (pad b))) =
      convolve c (2 ^ (k + 1)) a b

/-- Forking a Job once, transforming both leaves and merging them, in either order, gives the Job's own transform
(44_job_merge.md R234, R236, R239, R241). -/
def Obligations.ForkTransformMergeIsTheTransform : Prop :=
  ∀ (c : Cfg) (e : JobEntry) (k : Nat), c.WellFormed → k + 1 ≤ c.maxLog → e.kind = .job → e.data.length = 2 ^ (k + 1) →
    allReduced c e.data = true → 2 * e.pathId.toNat + 2 < 2 ^ 32 →
    let even := jobTransform c (forkLeaf e 1 (2 ^ k) 0)
    let odd := jobTransform c (forkLeaf e 1 (2 ^ k) 1)
    pairMask even odd = 0 ∧ mergeEntries c even odd = jobTransform c e ∧ mergeEntries c odd even = jobTransform c e

/-- `JRUN` on the leaves a fork made, of any size, leaves one MergeJob holding the transform of the root vector
(44_job_merge.md R235, R241, R244, R245). That `RES2` is the length modulo `2^32` is the model's reading, log entry 14. -/
def Obligations.JrunOnAForkTreeGivesTheTransform : Prop :=
  ∀ (s : State) (e : JobEntry) (jd k t : Nat), s.cfg.WellFormed → e.kind = .job → e.pathId = 0 → e.data.length = 2 ^ k →
    k ≤ s.cfg.maxLog → 2 ^ k ≤ s.cfg.jMaxLen → t ≤ k → jd + 2 ^ t ≤ 64 → allReduced s.cfg e.data = true →
    (∀ i, i < 2 ^ t → s.jt[jd + i]? = some (some (forkLeaf e t (2 ^ (k - t)) i))) →
    (∀ j x, j < jd ∨ jd + 2 ^ t ≤ j → s.jt[j]? = some (some x) → x.jobId ≠ e.jobId) →
    ∃ u, exec (.jrun e.jobId) s = .next { s with
        jt := u
        rinit := true
        res0 := BitVec.ofNat 32 jd
        res1 := 0
        res2 := BitVec.ofNat 32 (2 ^ k)
        cseq := s.cseq + 1
        busy := false } ∧
      u[jd]? = some (some ⟨.mergeJob, e.jobId, 0, false, dft s.cfg k e.data⟩) ∧
      (∀ i, 0 < i → i < 2 ^ t → u[jd + i]? = some none) ∧
      ∀ j, j < jd ∨ jd + 2 ^ t ≤ j → u[j]? = s.jt[j]?

/-! Results, family by family -/

/-- `NOP`, `UCLR`, `UMOV`, `FZERO`, `FONE`, `LDI`: their encodings and everything they do (R290, R131, R132, R171, R172,
R293). -/
def Obligations.CopiesAndConstants : Prop :=
  ∀ (s : State) (fd fa : RegIdx) (imm : Word), isReg fd = true → isReg fa = true →
    (Instr.nop).fields = ⟨0x00, 0, 0, 0, 0, 0, 0⟩ ∧
    exec .nop s = .next { s with cseq := s.cseq + 1, busy := false } ∧
    (Instr.uclr fd).fields = ⟨0x10, fd, 0, 0, 0, 0, 0⟩ ∧
    exec (.uclr fd) s = .next { s with f := s.f.setIfInBounds fd.toNat 0, cseq := s.cseq + 1, busy := false } ∧
    (Instr.umov fd fa).fields = ⟨0x11, fd, fa, 0, 0, 0, 0⟩ ∧
    exec (.umov fd fa) s = .next { s with
      f := s.f.setIfInBounds fd.toNat (s.getF fa), cseq := s.cseq + 1, busy := false } ∧
    (Instr.fzero fd).fields = ⟨0x30, fd, 0, 0, 0, 0, 0⟩ ∧
    exec (.fzero fd) s = .next { s with f := s.f.setIfInBounds fd.toNat 0, cseq := s.cseq + 1, busy := false } ∧
    (Instr.fone fd).fields = ⟨0x31, fd, 0, 0, 0, 0, 0⟩ ∧
    exec (.fone fd) s = .next { s with f := s.f.setIfInBounds fd.toNat s.cfg.oneM, cseq := s.cseq + 1, busy := false } ∧
    (Instr.ldi fd imm).fields = ⟨0x03, fd, 0, 0, imm, 0, 0⟩ ∧
    exec (.ldi fd imm) s = .next { s with
      f := s.f.setIfInBounds fd.toNat (BitVec.ofNat 256 imm.toNat), cseq := s.cseq + 1, busy := false }

/-- `UADD`, `USUB`, `UNEG`: result, carry or borrow, bit 255; below `2^255` borrow and bit 255 of a difference agree
(40_fixed_width_uint.md R133, R134, R135). -/
def Obligations.IntegerAddSubtractNegate : Prop :=
  ∀ (s : State) (fd fa fb : RegIdx), isReg fd = true → isReg fa = true → isReg fb = true →
    let a := (s.getF fa).toNat
    let b := (s.getF fb).toNat
    (Instr.uadd fd fa fb).fields = ⟨0x12, fd, fa, fb, 0, 0, 0⟩ ∧
    exec (.uadd fd fa fb) s = .next { s with
      f := s.f.setIfInBounds fd.toNat (BitVec.ofNat 256 ((a + b) % 2 ^ 256))
      flagC := decide (2 ^ 256 ≤ a + b)
      flagS := ((a + b) % 2 ^ 256).testBit 255
      cseq := s.cseq + 1
      busy := false } ∧
    (Instr.usub fd fa fb).fields = ⟨0x13, fd, fa, fb, 0, 0, 0⟩ ∧
    exec (.usub fd fa fb) s = .next { s with
      f := s.f.setIfInBounds fd.toNat (BitVec.ofNat 256 ((2 ^ 256 + a - b) % 2 ^ 256))
      flagC := decide (a < b)
      flagS := ((2 ^ 256 + a - b) % 2 ^ 256).testBit 255
      cseq := s.cseq + 1
      busy := false } ∧
    (a < 2 ^ 255 → b < 2 ^ 255 → ((2 ^ 256 + a - b) % 2 ^ 256).testBit 255 = decide (a < b)) ∧
    (Instr.uneg fd fa).fields = ⟨0x14, fd, fa, 0, 0, 0, 0⟩ ∧
    exec (.uneg fd fa) s = .next { s with
      f := s.f.setIfInBounds fd.toNat (BitVec.ofNat 256 ((2 ^ 256 - a) % 2 ^ 256))
      flagS := ((2 ^ 256 - a) % 2 ^ 256).testBit 255
      cseq := s.cseq + 1
      busy := false }

/-- `UMUL256`, `UMUL512` and `RDW`: encodings of the first two, the low half, the full product in `W`, and the two halves of `W`; what `UMUL512`
wrote `RDW` reads back (40_fixed_width_uint.md R137, R138; 46_data_movement_system.md R294). -/
def Obligations.IntegerProducts : Prop :=
  ∀ (s : State) (fd fa fb : RegIdx), isReg fd = true → isReg fa = true → isReg fb = true →
    let p := (s.getF fa).toNat * (s.getF fb).toNat
    (Instr.umul256 fd fa fb).fields = ⟨0x15, fd, fa, fb, 0, 0, 0⟩ ∧
    exec (.umul256 fd fa fb) s = .next { s with
      f := s.f.setIfInBounds fd.toNat (BitVec.ofNat 256 (p % 2 ^ 256)), cseq := s.cseq + 1, busy := false } ∧
    (Instr.umul512 fa fb).fields = ⟨0x16, 0, fa, fb, 0, 0, 0⟩ ∧
    exec (.umul512 fa fb) s = .next { s with w := BitVec.ofNat 512 p, cseq := s.cseq + 1, busy := false } ∧
    (BitVec.ofNat 512 p).toNat = p ∧
    exec (.rdw fd 0) s = .next { s with
      f := s.f.setIfInBounds fd.toNat (BitVec.ofNat 256 (s.w.toNat % 2 ^ 256)), cseq := s.cseq + 1, busy := false } ∧
    exec (.rdw fd 1) s = .next { s with
      f := s.f.setIfInBounds fd.toNat (BitVec.ofNat 256 (s.w.toNat / 2 ^ 256)), cseq := s.cseq + 1, busy := false }

/-- `UEQ`, `FEQ`, `FISZ` write `Z` and nothing else, on any register contents, reduced or not (40_fixed_width_uint.md R139;
42_field_element.md R182, R185; log entry 4). -/
def Obligations.Comparisons : Prop :=
  ∀ (s : State) (fa fb : RegIdx), isReg fa = true → isReg fb = true →
    exec (.ueq fa fb) s = .next { s with
      flagZ := decide ((s.getF fa).toNat = (s.getF fb).toNat), cseq := s.cseq + 1, busy := false } ∧
    exec (.feq fa fb) s = .next { s with
      flagZ := decide ((s.getF fa).toNat = (s.getF fb).toNat), cseq := s.cseq + 1, busy := false } ∧
    exec (.fisz fa) s = .next { s with
      flagZ := decide ((s.getF fa).toNat = 0), cseq := s.cseq + 1, busy := false }

/-- `MONPRO`, `MONADD`, `MONSUB`, `TOMONT`, `FROMMONT` on reduced operands (41_montgomery.md R153, R158, R160, R161,
R162). -/
def Obligations.MontgomeryCommands : Prop :=
  ∀ (s : State) (fd fa fb : RegIdx), s.cfg.WellFormed → isReg fd = true → isReg fa = true → isReg fb = true →
    (s.getF fa).toNat < s.cfg.n.toNat → (s.getF fb).toNat < s.cfg.n.toNat →
    let n := s.cfg.n.toNat
    let a := (s.getF fa).toNat
    let b := (s.getF fb).toNat
    let result := fun v : U256 => Host.Outcome.next (φ := Fault) (ρ := Refusal)
      { s with f := s.f.setIfInBounds fd.toNat v, cseq := s.cseq + 1, busy := false }
    (∃ v, exec (.monpro fd fa fb) s = result v ∧ v.toNat < n ∧ v.toNat * 2 ^ 256 % n = a * b % n) ∧
    (∃ v, exec (.monadd fd fa fb) s = result v ∧ v.toNat = (a + b) % n) ∧
    (∃ v, exec (.monsub fd fa fb) s = result v ∧ v.toNat = (a + (n - b)) % n) ∧
    (∃ v, exec (.tomont fd fa) s = result v ∧ v.toNat = a * 2 ^ 256 % n) ∧
    (∃ v, exec (.frommont fd fa) s = result v ∧ v.toNat < n ∧ v.toNat * 2 ^ 256 % n = a)

/-- `FSQR`, `FNEG`, `FINV`, `FTOCAN` on a reduced operand, and `FFROMCAN`, which imports a canonical integer and faults
`RANGE` on one that is not (42_field_element.md R175, R176, R177, R183, R184). -/
def Obligations.FieldUnaryCommands : Prop :=
  ∀ (s : State) (fd fa : RegIdx), s.cfg.WellFormed → isReg fd = true → isReg fa = true →
    let n := s.cfg.n.toNat
    let a := (s.getF fa).toNat
    let result := fun v : U256 => Host.Outcome.next (φ := Fault) (ρ := Refusal)
      { s with f := s.f.setIfInBounds fd.toNat v, cseq := s.cseq + 1, busy := false }
    (n ≤ a → exec (.ffromcan fd fa) s = .next (raise ⟨.range, limb (s.getF fa) 7, limb (s.getF fa) 0, 0⟩ s)) ∧
    (a < n →
    exec (.ffromcan fd fa) s = result (s.cfg.mont a) ∧
    (∃ v, exec (.fsqr fd fa) s = result v ∧ v.toNat < n ∧ v.toNat * 2 ^ 256 % n = a * a % n) ∧
    (∃ v, exec (.fneg fd fa) s = result v ∧ v.toNat = if a = 0 then 0 else n - a) ∧
    (∃ v, exec (.finv fd fa) s = result v ∧ v.toNat < n ∧
      if a = 0 then v = 0 else monPro s.cfg (s.getF fa) v = s.cfg.oneM) ∧
    ∃ v, exec (.ftocan fd fa) s = result v ∧ v.toNat < n ∧ v.toNat * 2 ^ 256 % n = a)

/-- `FRAND` and `FRANDS` write some reduced element; the seeded one is a function of the instance and the seed
(42_field_element.md R179, R180; free values, log entry 6). -/
def Obligations.RandomElements : Prop :=
  (∀ (s : State) (fd : RegIdx), s.cfg.WellFormed → isReg fd = true →
    ∃ v : U256, v.toNat < s.cfg.n.toNat ∧ exec (.frand fd) s = .next { s with
      f := s.f.setIfInBounds fd.toNat v, draws := s.draws + 1, cseq := s.cseq + 1, busy := false }) ∧
  ∀ (c : Cfg) (x y : Word), c.WellFormed →
    ∃ v : U256, v.toNat < c.n.toNat ∧ ∀ (s : State) (fd : RegIdx), s.cfg = c → isReg fd = true →
      exec (.frands fd x y) s = .next { s with
        f := s.f.setIfInBounds fd.toNat v, cseq := s.cseq + 1, busy := false }

/-- `FROOT` reads the table for an order it has and faults `ROOTORDER` for any other (42_field_element.md R181). -/
def Obligations.RootLookup : Prop :=
  ∀ (s : State) (fd : RegIdx) (x y : Word), isReg fd = true →
    let order := x.toNat + 2 ^ 32 * y.toNat
    (∀ k, order = 2 ^ k → k ≤ s.cfg.maxLog → exec (.froot fd x y) s = .next { s with
      f := s.f.setIfInBounds fd.toNat (s.cfg.rootAt k), rinit := true, cseq := s.cseq + 1, busy := false }) ∧
    ((∀ k, order = 2 ^ k → s.cfg.maxLog < k) → exec (.froot fd x y) s = .next (raise ⟨.rootOrder, x, y, 0⟩ s))

/-- `LDE` and `STE` move one whole slot, and fault `VMBOUNDS` outside the memory (46_data_movement_system.md R291, R292). -/
def Obligations.LoadAndStore : Prop :=
  ∀ (s : State) (r : RegIdx) (addr : Word), isReg r = true →
    (addr.toNat < s.cfg.vmSize →
      exec (.lde r addr) s = .next { s with
        f := s.f.setIfInBounds r.toNat (s.vmSlot addr.toNat), cseq := s.cseq + 1, busy := false } ∧
      ∃ t, exec (.ste r addr) s = .next t ∧ t = { s with vm := t.vm, cseq := s.cseq + 1, busy := false } ∧
        t.vmSlot addr.toNat = s.getF r ∧ ∀ a, a < 32 * addr.toNat ∨ 32 * (addr.toNat + 1) ≤ a → t.vmByte a = s.vmByte a) ∧
    (s.cfg.vmSize ≤ addr.toNat →
      exec (.lde r addr) s = .next (raise (trap .vmBounds addr.toNat 1 0) s) ∧
      exec (.ste r addr) s = .next (raise (trap .vmBounds addr.toNat 1 0) s))

/-- `FFTREC`, `FFTR2`, `FFT4` and `IFFT` on a reduced vector, source and destination ranges equal, disjoint or
overlapping (43_fft.md R200, R205, R208, R211, R213; 20_memory.md R84). -/
def Obligations.TransformCommands : Prop :=
  ∀ (s : State) (src dst len : Word) (k : Nat), s.cfg.WellFormed → len.toNat = 2 ^ k → k ≤ s.cfg.maxLog →
    src.toNat + 2 ^ k ≤ s.cfg.vmSize → dst.toNat + 2 ^ k ≤ s.cfg.vmSize →
    allReduced s.cfg (s.memRead src.toNat (2 ^ k)) = true →
    let v := s.memRead src.toNat (2 ^ k)
    let result := fun y : List U256 => Host.Outcome.next (φ := Fault) (ρ := Refusal)
      { s.memWrite dst.toNat y with rinit := true, cseq := s.cseq + 1, busy := false }
    exec (.fftrec src dst len) s = result (dft s.cfg k v) ∧
    (∀ fw, isReg fw = true → s.getF fw = s.cfg.rootAt k ∨ k = 0 →
      exec (.fftr2 fw src dst len) s = result (dft s.cfg k v)) ∧
    (∀ fw, isReg fw = true → (s.getF fw).toNat < s.cfg.n.toNat →
      exec (.fftr2 fw src dst len) s = result (radix2Fft s.cfg k (s.getF fw) v)) ∧
    (∀ la lb : Byte, isLog la = true → isLog lb = true → la.toNat + lb.toNat = k →
      exec (.fft4 la lb src dst len) s = result (dft s.cfg k v)) ∧
    ∃ y : List U256, exec (.ifft src dst len) s = result y ∧ y.length = 2 ^ k ∧ allReduced s.cfg y = true ∧ dft s.cfg k y = v

/-- The faults of the four transforms, in the order of 43_fft.md R202. -/
def Obligations.TransformFaults : Prop :=
  ∀ (s : State) (src dst len : Word) (fw : RegIdx) (la lb : Byte),
    let all := fun (op : Nat → Trap) =>
      exec (.fftrec src dst len) s = .next (raise (op 0x40) s) ∧
      exec (.fftr2 fw src dst len) s = .next (raise (op 0x41) s) ∧
      exec (.ifft src dst len) s = .next (raise (op 0x43) s)
    ((∀ k, len.toNat ≠ 2 ^ k) → all (fun op => trap .nPow2 len.toNat op 0) ∧
      exec (.fft4 la lb src dst len) s = .next (raise (trap .nPow2 len.toNat 0x42 0) s)) ∧
    (∀ k, len.toNat = 2 ^ k → s.cfg.maxLog < k → all (fun _ => trap .rootOrder len.toNat 0 0) ∧
      exec (.fft4 la lb src dst len) s = .next (raise (trap .rootOrder len.toNat 0 0) s)) ∧
    (∀ k, len.toNat = 2 ^ k → k ≤ s.cfg.maxLog → 2 ^ la.toNat * 2 ^ lb.toNat ≠ len.toNat →
      exec (.fft4 la lb src dst len) s = .next (raise (trap .shape (2 ^ la.toNat) (2 ^ lb.toNat) len.toNat) s)) ∧
    (∀ k, len.toNat = 2 ^ k → k ≤ s.cfg.maxLog → s.cfg.vmSize < src.toNat + 2 ^ k →
      all (fun _ => trap .vmBounds src.toNat len.toNat 0) ∧
      (la.toNat + lb.toNat = k →
        exec (.fft4 la lb src dst len) s = .next (raise (trap .vmBounds src.toNat len.toNat 0) s))) ∧
    (∀ k, len.toNat = 2 ^ k → k ≤ s.cfg.maxLog → src.toNat + 2 ^ k ≤ s.cfg.vmSize → s.cfg.vmSize < dst.toNat + 2 ^ k →
      all (fun _ => trap .vmBounds dst.toNat len.toNat 0) ∧
      (la.toNat + lb.toNat = k →
        exec (.fft4 la lb src dst len) s = .next (raise (trap .vmBounds dst.toNat len.toNat 0) s)))

/-- An unreduced operand stops no command: an element command writes one free value in `fd`, a transform a free vector in its
destination slots, a Job or polynomial command free vectors in the entries, descriptors and slots it writes, and nothing else
differs; `JRUN`'s course depends on tags and lengths only (44_job_merge.md R245), and every entry it writes is a free vector. The
model's reading of 93_implementation_defined.md U1, "any value" (log entry 3), with log entry 16 for `FFTR2` of length 1, log
entry 19 for `JRUN` and log entry 21 for `RINIT`. -/
def Obligations.UnreducedOperandsGiveFreeValues : Prop :=
  (∀ (s : State) (fd fa fb : RegIdx), isReg fd = true → isReg fa = true → isReg fb = true →
    let open1 := Host.Outcome.next (φ := Fault) (ρ := Refusal)
      { s with
        f := s.f.setIfInBounds fd.toNat (Config.anyElement s.draws)
        draws := s.draws + 1
        cseq := s.cseq + 1
        busy := false }
    (s.cfg.n.toNat ≤ (s.getF fa).toNat ∨ s.cfg.n.toNat ≤ (s.getF fb).toNat →
      exec (.monpro fd fa fb) s = open1 ∧ exec (.monadd fd fa fb) s = open1 ∧ exec (.monsub fd fa fb) s = open1) ∧
    (s.cfg.n.toNat ≤ (s.getF fa).toNat →
      exec (.tomont fd fa) s = open1 ∧ exec (.frommont fd fa) s = open1 ∧ exec (.fsqr fd fa) s = open1 ∧
      exec (.fneg fd fa) s = open1 ∧ exec (.finv fd fa) s = open1 ∧ exec (.ftocan fd fa) s = open1)) ∧
  (∀ (s : State) (src dst len : Word) (k : Nat), len.toNat = 2 ^ k → k ≤ s.cfg.maxLog →
    src.toNat + 2 ^ k ≤ s.cfg.vmSize → dst.toNat + 2 ^ k ≤ s.cfg.vmSize →
    let open2 := Host.Outcome.next (φ := Fault) (ρ := Refusal)
      { s.memWrite dst.toNat (freeVec s.draws (2 ^ k)) with
        draws := s.draws + 2 ^ k
        rinit := true
        cseq := s.cseq + 1
        busy := false }
    let unreduced := allReduced s.cfg (s.memRead src.toNat (2 ^ k)) = false
    (unreduced → exec (.fftrec src dst len) s = open2 ∧ exec (.ifft src dst len) s = open2 ∧
      ∀ la lb : Byte, la.toNat + lb.toNat = k → exec (.fft4 la lb src dst len) s = open2) ∧
    ∀ fw, unreduced ∨ k ≠ 0 ∧ s.cfg.n.toNat ≤ (s.getF fw).toNat → exec (.fftr2 fw src dst len) s = open2) ∧
  (∀ (s : State) (js : JobIdx) (src len jobId : Word) (k : Nat), isJob js = true → s.getJob js = none → len.toNat = 2 ^ k →
    2 ^ k ≤ s.cfg.jMaxLen → src.toNat + 2 ^ k ≤ s.cfg.vmSize → allReduced s.cfg (s.memRead src.toNat (2 ^ k)) = false →
    exec (.jnew js src len jobId) s = .next { s with
      jt := s.jt.setIfInBounds js.toNat (some ⟨.job, jobId, 0, false, freeVec s.draws (2 ^ k)⟩)
      draws := s.draws + 2 ^ k
      cseq := s.cseq + 1
      busy := false }) ∧
  (∀ (s : State) (js jo : JobIdx) (dst target : Word) (e : JobEntry) (k : Nat), isJob js = true → isJob jo = true →
    s.getJob js = some e → e.data.length = 2 ^ k → allReduced s.cfg e.data = false →
    (∀ g t, target.toNat = 2 ^ g → k = g + t → e.kind = .job → jo.toNat + 2 ^ t ≤ 64 →
      (e.pathId.toNat + 1) * 2 ^ t + 2 ^ t - 2 < 2 ^ 32 → (∀ i, i < 2 ^ t → s.jt[jo.toNat + i]? = some none) →
      ∃ u, exec (.jfork jo js target) s = .next { s with
          jt := u, draws := s.draws + 2 ^ k, cseq := s.cseq + 1, busy := false } ∧
        (∀ i, i < 2 ^ t → u[jo.toNat + i]? =
          some (some { forkLeaf e t (2 ^ g) i with data := freeVec (s.draws + i * 2 ^ g) (2 ^ g) })) ∧
        ∀ j, j < jo.toNat ∨ jo.toNat + 2 ^ t ≤ j → u[j]? = s.jt[j]?) ∧
    (e.kind = .job → k ≤ s.cfg.maxLog → exec (.jfft js) s = .next { s with
      jt := s.jt.setIfInBounds js.toNat (some { jobTransform s.cfg e with data := freeVec s.draws (2 ^ k) })
      draws := s.draws + 2 ^ k
      rinit := true
      cseq := s.cseq + 1
      busy := false }) ∧
    (dst.toNat + 2 ^ k ≤ s.cfg.vmSize → exec (.jst js dst) s = .next { s.memWrite dst.toNat (freeVec s.draws (2 ^ k)) with
      draws := s.draws + 2 ^ k, cseq := s.cseq + 1, busy := false })) ∧
  (∀ (s : State) (js jo : JobIdx) (a b : JobEntry) (k : Nat), isJob js = true → isJob jo = true →
    s.getJob js = some a → s.getJob jo = some b → a.kind = .mergeJob → b.kind = .mergeJob → pairMask a b = 0 →
    a.data.length = 2 ^ k → 2 * 2 ^ k ≤ s.cfg.jMaxLen → k + 1 ≤ s.cfg.maxLog →
    allReduced s.cfg a.data = false ∨ allReduced s.cfg b.data = false →
    exec (.jmerge js jo) s = .next { s with
      jt := (s.jt.setIfInBounds js.toNat
        (some { mergeEntries s.cfg a b with data := freeVec s.draws (2 * 2 ^ k) })).setIfInBounds jo.toNat none
      draws := s.draws + 2 * 2 ^ k
      rinit := true
      cseq := s.cseq + 1
      busy := false }) ∧
  (∀ (s t s' : State) (id : Word), s.shape = t.shape → exec (.jrun id) s = .next s' →
    ∃ t', exec (.jrun id) t = .next t' ∧ s'.shape = t'.shape) ∧
  (∀ (s t : State) (id : Word) (i j : Nat) (e x : JobEntry), s.jt[i]? = some (some e) → e.jobId = id →
    allReduced s.cfg e.data = false → exec (.jrun id) s = .next t → t.jt[j]? = some (some x) →
    s.jt[j]? = some (some x) ∨ ∃ n, s.draws ≤ n ∧ x.data = freeVec n x.data.length) ∧
  (∀ (s : State) (pd : PolyIdx) (src len : Word) (k : Nat), isPoly pd = true → s.getPoly pd = none →
    2 ^ k ≤ s.cfg.pMaxDeg → src.toNat + len.toNat ≤ s.cfg.vmSize →
    allReduced s.cfg (s.memRead src.toNat len.toNat) = false →
    let made := fun p : Poly => Host.Outcome.next (φ := Fault) (ρ := Refusal)
      { s with
        pd := s.pd.setIfInBounds pd.toNat (some p)
        draws := s.draws + 2 ^ k
        cseq := s.cseq + 1
        busy := false }
    (len.toNat ≤ 2 ^ k → (∀ m, len.toNat ≤ 2 ^ m → k ≤ m) →
      exec (.pnew pd src len) s = made ⟨2 ^ k, some (freeVec s.draws (2 ^ k)), none⟩) ∧
    (len.toNat = 2 ^ k → exec (.pnewp pd src len) s = made ⟨2 ^ k, none, some (freeVec s.draws (2 ^ k))⟩)) ∧
  (∀ (s : State) (pa : PolyIdx) (fd fx : RegIdx) (target dst : Word) (p : Poly), isPoly pa = true → isReg fd = true →
    isReg fx = true → s.getPoly pa = some p → p.Ok s.cfg →
    let lost := if p.coef.isSome = true then 0 else p.degree
    let gain := if p.point.isSome = true then 0 else p.degree
    let withCoef := s.pd.setIfInBounds pa.toNat (some { p with coef := some (p.coef.getD (freeVec s.draws p.degree)) })
    let withPoint := s.pd.setIfInBounds pa.toNat (some { p with point := some (p.point.getD (freeVec s.draws p.degree)) })
    (p.coef.isSome = true ∨ p.degree.log2 ≤ s.cfg.maxLog →
      (allReduced s.cfg p.coefOperands = false →
        (∀ k, target.toNat = 2 ^ k → p.degree < 2 ^ k → 2 ^ k ≤ s.cfg.pMaxDeg → exec (.pext pa target) s = .next { s with
          pd := s.pd.setIfInBounds pa.toNat (some ⟨2 ^ k, some (freeVec s.draws (2 ^ k)), none⟩)
          draws := s.draws + 2 ^ k
          rinit := s.rinit || p.coef.isNone
          cseq := s.cseq + 1
          busy := false }) ∧
        exec (.pcoef pa) s = .next { s with
          pd := withCoef, draws := s.draws + lost, rinit := s.rinit || p.coef.isNone, cseq := s.cseq + 1, busy := false } ∧
        (dst.toNat + p.degree ≤ s.cfg.vmSize → exec (.pstc pa dst) s = .next {
          s.memWrite dst.toNat (freeVec (s.draws + lost) p.degree) with
            pd := withCoef
            draws := s.draws + lost + p.degree
            rinit := s.rinit || p.coef.isNone
            cseq := s.cseq + 1
            busy := false })) ∧
      (allReduced s.cfg p.coefOperands = false ∨ s.cfg.n.toNat ≤ (s.getF fx).toNat →
        exec (.peval fd pa fx) s = .next { s with
          f := s.f.setIfInBounds fd.toNat (Config.anyElement (s.draws + lost))
          pd := withCoef
          draws := s.draws + lost + 1
          rinit := s.rinit || p.coef.isNone
          cseq := s.cseq + 1
          busy := false })) ∧
    (p.point.isSome = true ∨ p.degree.log2 ≤ s.cfg.maxLog → allReduced s.cfg p.pointOperands = false →
      exec (.ppoint pa) s = .next { s with
        pd := withPoint, draws := s.draws + gain, rinit := s.rinit || p.point.isNone, cseq := s.cseq + 1, busy := false } ∧
      (dst.toNat + p.degree ≤ s.cfg.vmSize → exec (.pstp pa dst) s = .next {
        s.memWrite dst.toNat (freeVec (s.draws + gain) p.degree) with
          pd := withPoint
          draws := s.draws + gain + p.degree
          rinit := s.rinit || p.point.isNone
          cseq := s.cseq + 1
          busy := false }))) ∧
  ∀ (s : State) (pd pa pb : PolyIdx) (p q : Poly), isPoly pd = true → isPoly pa = true → isPoly pb = true →
    s.getPoly pa = some p → s.getPoly pb = some q → pd = pa ∨ pd = pb ∨ s.getPoly pd = none → p.Ok s.cfg → q.Ok s.cfg →
    allReduced s.cfg p.coefOperands = false ∨ allReduced s.cfg q.coefOperands = false →
    let d := max p.degree q.degree
    let others := fun u : Vector (Option Poly) 8 =>
      ∀ i, i ≠ pd.toNat → i ≠ pa.toNat → i ≠ pb.toNat → u[i]? = s.pd[i]?
    let stretched := fun (r : Poly) (x : Option (Option Poly)) =>
      if r.degree = d ∧ r.coef.isSome = true then x = some (some r)
      else ∃ n, s.draws ≤ n ∧ x = some (some ⟨d, some (freeVec n d), if r.degree = d then r.point else none⟩)
    let doubled := fun x : Option (Option Poly) =>
      ∃ m n, s.draws ≤ m ∧ s.draws ≤ n ∧ x = some (some ⟨2 * d, some (freeVec m (2 * d)), some (freeVec n (2 * d))⟩)
    (p.coef.isSome = true ∨ p.degree.log2 ≤ s.cfg.maxLog → q.coef.isSome = true ∨ q.degree.log2 ≤ s.cfg.maxLog →
      ∃ u draws, exec (.padd pd pa pb) s = .next { s with
          pd := u
          draws := draws
          rinit := s.rinit || p.coef.isNone || q.coef.isNone
          cseq := s.cseq + 1
          busy := false } ∧
        (∃ n, s.draws ≤ n ∧ u[pd.toNat]? = some (some ⟨d, some (freeVec n d), none⟩)) ∧ others u ∧
        (pa ≠ pd → stretched p u[pa.toNat]?) ∧ (pb ≠ pd → stretched q u[pb.toNat]?)) ∧
    (2 * d ≤ s.cfg.pMaxDeg → (2 * d).log2 ≤ s.cfg.maxLog →
      ∃ u draws, exec (.pmul pd pa pb) s = .next { s with
          pd := u, draws := draws, rinit := true, cseq := s.cseq + 1, busy := false } ∧
        (∃ n, s.draws ≤ n ∧ u[pd.toNat]? = some (some ⟨2 * d, none, some (freeVec n (2 * d))⟩)) ∧ others u ∧
        (pa ≠ pd → doubled u[pa.toNat]?) ∧ (pb ≠ pd → doubled u[pb.toNat]?))

/-- `JNEW` and `JFREE`, with `JNEW`'s faults in their order (44_job_merge.md R233, R248). -/
def Obligations.JobsAreMadeAndFreed : Prop :=
  ∀ (s : State) (js : JobIdx) (src len jobId : Word), isJob js = true →
    exec (.jfree js) s = .next { s with jt := s.jt.setIfInBounds js.toNat none, cseq := s.cseq + 1, busy := false } ∧
    ((s.getJob js).isSome = true → exec (.jnew js src len jobId) s = .next (raise (trap .jobState js.toNat 1 0) s)) ∧
    (s.getJob js = none → (∀ k, len.toNat ≠ 2 ^ k) →
      exec (.jnew js src len jobId) s = .next (raise (trap .nPow2 len.toNat 0x50 0) s)) ∧
    ∀ k, s.getJob js = none → len.toNat = 2 ^ k →
      (s.cfg.jMaxLen < 2 ^ k →
        exec (.jnew js src len jobId) s = .next (raise (trap .capacity len.toNat s.cfg.jMaxLen 0) s)) ∧
      (2 ^ k ≤ s.cfg.jMaxLen → s.cfg.vmSize < src.toNat + 2 ^ k →
        exec (.jnew js src len jobId) s = .next (raise (trap .vmBounds src.toNat len.toNat 0) s)) ∧
      (2 ^ k ≤ s.cfg.jMaxLen → src.toNat + 2 ^ k ≤ s.cfg.vmSize →
        allReduced s.cfg (s.memRead src.toNat (2 ^ k)) = true →
        exec (.jnew js src len jobId) s = .next { s with
          jt := s.jt.setIfInBounds js.toNat (some ⟨.job, jobId, 0, false, s.memRead src.toNat (2 ^ k)⟩)
          cseq := s.cseq + 1
          busy := false })

/-- `JFORK` writes the leaves in consecutive slots and consumes nothing, with its faults in their order
(44_job_merge.md R234, R235). -/
def Obligations.JforkWritesTheLeaves : Prop :=
  ∀ (s : State) (jd js : JobIdx) (target : Word), isJob jd = true → isJob js = true →
    ((∀ e, s.getJob js = some e → e.kind = .mergeJob) →
      exec (.jfork jd js target) s = .next (raise (trap .jobState js.toNat 2 0) s)) ∧
    ∀ (e : JobEntry) (k : Nat), s.getJob js = some e → e.kind = .job → e.data.length = 2 ^ k →
      ((∀ g, target.toNat = 2 ^ g → k < g) →
        exec (.jfork jd js target) s = .next (raise (trap .forkSize target.toNat (2 ^ k) 0) s)) ∧
      ∀ g t : Nat, target.toNat = 2 ^ g → k = g + t →
        (64 < jd.toNat + 2 ^ t →
          exec (.jfork jd js target) s = .next (raise (trap .capacity (jd.toNat + 2 ^ t) 64 1) s)) ∧
        (jd.toNat + 2 ^ t ≤ 64 → 2 ^ 32 ≤ (e.pathId.toNat + 1) * 2 ^ t + 2 ^ t - 2 →
          exec (.jfork jd js target) s = .next (raise (trap .forkSize target.toNat (2 ^ k) 1) s)) ∧
        (∀ i, jd.toNat + 2 ^ t ≤ 64 → (e.pathId.toNat + 1) * 2 ^ t + 2 ^ t - 2 < 2 ^ 32 → i < 2 ^ t →
          (s.jt[jd.toNat + i]?.getD none).isSome = true → (∀ i', i' < i → s.jt[jd.toNat + i']? = some none) →
          exec (.jfork jd js target) s = .next (raise (trap .jobState (jd.toNat + i) 1 0) s)) ∧
        (jd.toNat + 2 ^ t ≤ 64 → (e.pathId.toNat + 1) * 2 ^ t + 2 ^ t - 2 < 2 ^ 32 →
          (∀ i, i < 2 ^ t → s.jt[jd.toNat + i]? = some none) → allReduced s.cfg e.data = true →
          ∃ u, exec (.jfork jd js target) s = .next { s with jt := u, cseq := s.cseq + 1, busy := false } ∧
            (∀ i, i < 2 ^ t → u[jd.toNat + i]? = some (some
              { kind := .job
                jobId := e.jobId
                pathId := BitVec.ofNat 32 ((e.pathId.toNat + 1) * 2 ^ t - 1 + i)
                side := false
                data := (List.range (2 ^ g)).map fun v => e.data.getD (bitReverse t i + v * 2 ^ t) 0 })) ∧
            ∀ j, j < jd.toNat ∨ jd.toNat + 2 ^ t ≤ j → u[j]? = s.jt[j]?)

/-- `JFFT` consumes a Job into the MergeJob of its transform, with its faults (44_job_merge.md R236, R237). -/
def Obligations.JfftConsumesAJob : Prop :=
  ∀ (s : State) (js : JobIdx), isJob js = true →
    ((∀ e, s.getJob js = some e → e.kind = .mergeJob) →
      exec (.jfft js) s = .next (raise (trap .jobState js.toNat 2 0) s)) ∧
    ∀ (e : JobEntry) (k : Nat), s.getJob js = some e → e.kind = .job → e.data.length = 2 ^ k →
      (s.cfg.maxLog < k → exec (.jfft js) s = .next (raise (trap .rootOrder (2 ^ k) 0 0) s)) ∧
      (s.cfg.WellFormed → k ≤ s.cfg.maxLog → allReduced s.cfg e.data = true →
        exec (.jfft js) s = .next { s with
          jt := s.jt.setIfInBounds js.toNat (some
            { kind := .mergeJob
              jobId := e.jobId
              pathId := if e.pathId = 0 then 0 else (e.pathId - 1) >>> 1
              side := decide (e.pathId ≠ 0) && (e.pathId - 1).getLsbD 0
              data := dft s.cfg k e.data })
          rinit := true
          cseq := s.cseq + 1
          busy := false })

/-- `JMERGE` merges two mergeable MergeJobs by the butterfly with the doubled length's root, either one as self, and
empties the other, with its faults in their order (44_job_merge.md R239, R240). -/
def Obligations.JmergeMergesAPair : Prop :=
  ∀ (s : State) (js jo : JobIdx), isJob js = true → isJob jo = true →
    ((∀ e, s.getJob js = some e → e.kind = .job) →
      exec (.jmerge js jo) s = .next (raise (trap .jobState js.toNat 3 0) s)) ∧
    ∀ a : JobEntry, s.getJob js = some a → a.kind = .mergeJob →
      ((∀ e, s.getJob jo = some e → e.kind = .job) →
        exec (.jmerge js jo) s = .next (raise (trap .jobState jo.toNat 3 0) s)) ∧
      ∀ b : JobEntry, s.getJob jo = some b → b.kind = .mergeJob →
        let mask := (if a.jobId = b.jobId then 0 else 1) + (if a.pathId = b.pathId then 0 else 2) +
          (if a.side = b.side then 4 else 0) + (if a.data.length = b.data.length then 0 else 8)
        let h := a.data.length
        (mask ≠ 0 → exec (.jmerge js jo) s = .next (raise (trap .pairKey js.toNat jo.toNat mask) s)) ∧
        (mask = 0 → s.cfg.jMaxLen < 2 * h →
          exec (.jmerge js jo) s = .next (raise (trap .capacity (2 * h) s.cfg.jMaxLen 0) s)) ∧
        ∀ k, h = 2 ^ k → mask = 0 → 2 * h ≤ s.cfg.jMaxLen →
          (s.cfg.maxLog < k + 1 → exec (.jmerge js jo) s = .next (raise (trap .rootOrder (2 * h) 0 0) s)) ∧
          (s.cfg.WellFormed → k + 1 ≤ s.cfg.maxLog → allReduced s.cfg a.data = true → allReduced s.cfg b.data = true →
            let even := if a.side then b.data else a.data
            let odd := if a.side then a.data else b.data
            let turn := fun i => monPro s.cfg (fieldPow s.cfg (s.cfg.rootAt (k + 1)) i) (odd.getD i 0)
            exec (.jmerge js jo) s = .next { s with
              jt := (s.jt.setIfInBounds js.toNat (some
                { kind := .mergeJob
                  jobId := a.jobId
                  pathId := if a.pathId = 0 then 0 else (a.pathId - 1) >>> 1
                  side := decide (a.pathId ≠ 0) && (a.pathId - 1).getLsbD 0
                  data := ((List.range h).map fun i => monAdd s.cfg (even.getD i 0) (turn i)) ++
                    (List.range h).map fun i => monSub s.cfg (even.getD i 0) (turn i) })).setIfInBounds jo.toNat none
              rinit := true
              cseq := s.cseq + 1
              busy := false })

/-- `JFIND`: its encoding; it reports the least pair, or none, or faults `NOPAIR` (44_job_merge.md R243). -/
def Obligations.JfindReportsTheLeastPair : Prop :=
  ∀ (s : State) (id : Word),
    (Instr.jfind id).fields = ⟨0x54, 0, 0, 0, id, 0, 0⟩ ∧
    (∀ i j, isPair s id i j → (∀ i' j', isPair s id i' j' → i < i' ∨ i = i' ∧ j ≤ j') →
      exec (.jfind id) s = .next { s with
        flagZ := true
        res0 := BitVec.ofNat 32 i
        res1 := BitVec.ofNat 32 j
        res2 := BitVec.ofNat 32 (mergeCount s id)
        cseq := s.cseq + 1
        busy := false }) ∧
    ((∀ i j, ¬ isPair s id i j) → mergeCount s id ≤ 1 →
      exec (.jfind id) s = .next { s with
        flagZ := false
        res0 := 0xffffffff
        res1 := 0xffffffff
        res2 := BitVec.ofNat 32 (mergeCount s id)
        cseq := s.cseq + 1
        busy := false }) ∧
    ((∀ i j, ¬ isPair s id i j) → 1 < mergeCount s id →
      exec (.jfind id) s = .next (raise (trap .noPair id.toNat (mergeCount s id) 0) s))

/-- `JST` writes an entry's vector to `VM`, `JQRY` reports an entry's tags, with `JST`'s faults; and `JRUN`: with no Job left to
transform and no pair to merge it only reports; it faults with the words of the step that would fault, the first Job whose
vector is too long, no pair among two or more MergeJobs, a least pair of unequal lengths, of a doubled length above `JMAXLEN` or
above the root table; and otherwise its first step, the `JFFT` of the least Job or, with no Job left, the `JMERGE` of the least
pair, leads to a state whose `JRUN` decides this one's, fault or completion (44_job_merge.md R245, R246, R247). The first step's
clauses are for reduced elements; for others see `UnreducedOperandsGiveFreeValues`. That `RES2` is the length modulo `2^32` is the
model's reading, log entry 14. -/
def Obligations.JobEntriesAreReadOut : Prop :=
  (∀ (s : State) (js : JobIdx) (dst : Word), isJob js = true →
    (s.getJob js = none →
      exec (.jst js dst) s = .next (raise (trap .jobState js.toNat 4 0) s) ∧
      exec (.jqry js) s = .next { s with res0 := 0, res1 := 0, res2 := 0, cseq := s.cseq + 1, busy := false }) ∧
    ∀ (e : JobEntry) (k : Nat), s.getJob js = some e → e.data.length = 2 ^ k →
      (s.cfg.vmSize < dst.toNat + 2 ^ k →
        exec (.jst js dst) s = .next (raise (trap .vmBounds dst.toNat (2 ^ k) 0) s)) ∧
      (dst.toNat + 2 ^ k ≤ s.cfg.vmSize → allReduced s.cfg e.data = true →
        exec (.jst js dst) s = .next { s.memWrite dst.toNat e.data with cseq := s.cseq + 1, busy := false }) ∧
      (k < 256 → exec (.jqry js) s = .next { s with
        res0 := BitVec.ofNat 32 (1 + (if e.kind = .mergeJob then 2 else 0) + (if e.side then 4 else 0) + 256 * k)
        res1 := e.pathId
        res2 := e.jobId
        cseq := s.cseq + 1
        busy := false })) ∧
  (∀ (s : State) (id : Word), (∀ j, isJobSlot s id j = false) →
    ((∀ j, isMergeSlot s id j = false) → exec (.jrun id) s = .next { s with
      res0 := 0xffffffff, res1 := 0, res2 := 0, cseq := s.cseq + 1, busy := false }) ∧
    ∀ j e, s.jt[j]?.getD none = some e → (∀ j', isMergeSlot s id j' = true ↔ j' = j) → exec (.jrun id) s = .next { s with
      res0 := BitVec.ofNat 32 j, res1 := e.pathId, res2 := BitVec.ofNat 32 e.data.length, cseq := s.cseq + 1, busy := false }) ∧
  ∀ (s : State) (id : Word),
    let faults := fun tr : Trap => exec (.jrun id) s = .next (raise tr s)
    let decides := fun i : Instr => ∀ t, s.cfg.WellFormed →
      (∀ (j : Nat) (e : JobEntry), s.jt[j]?.getD none = some e → e.jobId = id → allReduced s.cfg e.data = true) →
      exec i s = .next t → t.cseq = s.cseq + 1 →
      (∀ tr, exec (.jrun id) t = .next (raise tr t) → faults tr) ∧
      ∀ u, exec (.jrun id) t = .next u → u.cseq = t.cseq + 1 → exec (.jrun id) s = .next { u with cseq := s.cseq + 1 }
    (∀ (j : Nat) (e : JobEntry), isJobSlot s id j = true → s.jt[j]?.getD none = some e → s.cfg.maxLog < e.data.length.log2 →
      (∀ (j' : Nat) (e' : JobEntry), j' < j → isJobSlot s id j' = true → s.jt[j']?.getD none = some e' → e'.data.length.log2 ≤ s.cfg.maxLog) →
      faults (trap .rootOrder e.data.length 0 0)) ∧
    (∀ j, isJobSlot s id j = true → (∀ j', j' < j → isJobSlot s id j' = false) → decides (.jfft (BitVec.ofNat 8 j))) ∧
    ((∀ j, isJobSlot s id j = false) →
      ((∀ i j, ¬ isPair s id i j) → 1 < mergeCount s id → faults (trap .noPair id.toNat (mergeCount s id) 0)) ∧
      ∀ (i j : Nat) (a b : JobEntry), isPair s id i j → (∀ i' j', isPair s id i' j' → i < i' ∨ i = i' ∧ j ≤ j') →
        s.jt[i]?.getD none = some a → s.jt[j]?.getD none = some b →
        (a.data.length ≠ b.data.length → faults (trap .pairKey i j 8)) ∧
        (a.data.length = b.data.length → s.cfg.jMaxLen < 2 * a.data.length →
          faults (trap .capacity (2 * a.data.length) s.cfg.jMaxLen 0)) ∧
        (a.data.length = b.data.length → 2 * a.data.length ≤ s.cfg.jMaxLen → s.cfg.maxLog < (2 * a.data.length).log2 →
          faults (trap .rootOrder (2 * a.data.length) 0 0)) ∧
        decides (.jmerge (BitVec.ofNat 8 i) (BitVec.ofNat 8 j)))

/-- `PNEW`, `PNEWP`, `PFREE`, `PQRY` make, free and query descriptors, with the faults of the first two in their order
(45_polynomial.md R263, R264, R274, R277). That `RES1` is the degree modulo `2^32` is the model's reading, log entry 14. -/
def Obligations.PolynomialsAreMadeAndFreed : Prop :=
  ∀ (s : State) (pd : PolyIdx) (src len : Word), isPoly pd = true →
    exec (.pfree pd) s = .next { s with pd := s.pd.setIfInBounds pd.toNat none, cseq := s.cseq + 1, busy := false } ∧
    (s.getPoly pd = none → exec (.pqry pd) s = .next { s with
      res0 := 0, res1 := 0, res2 := 0, cseq := s.cseq + 1, busy := false }) ∧
    (∀ p, s.getPoly pd = some p →
      exec (.pqry pd) s = .next { s with
        res0 := BitVec.ofNat 32 (1 + 2 * p.coef.isSome.toNat + 4 * p.point.isSome.toNat)
        res1 := BitVec.ofNat 32 p.degree
        res2 := 0
        cseq := s.cseq + 1
        busy := false } ∧
      exec (.pnew pd src len) s = .next (raise (trap .polyState pd.toNat 1 0) s) ∧
      exec (.pnewp pd src len) s = .next (raise (trap .polyState pd.toNat 1 0) s)) ∧
    (s.getPoly pd = none → ∀ k, len.toNat ≤ 2 ^ k → (∀ m, len.toNat ≤ 2 ^ m → k ≤ m) →
      (s.cfg.pMaxDeg < 2 ^ k → exec (.pnew pd src len) s = .next (raise (trap .capacity (2 ^ k) s.cfg.pMaxDeg 2) s)) ∧
      (2 ^ k ≤ s.cfg.pMaxDeg → s.cfg.vmSize < src.toNat + len.toNat →
        exec (.pnew pd src len) s = .next (raise (trap .vmBounds src.toNat len.toNat 0) s)) ∧
      (2 ^ k ≤ s.cfg.pMaxDeg → src.toNat + len.toNat ≤ s.cfg.vmSize →
        allReduced s.cfg (s.memRead src.toNat len.toNat) = true →
        exec (.pnew pd src len) s = .next { s with
          pd := s.pd.setIfInBounds pd.toNat (some
            ⟨2 ^ k, some (s.memRead src.toNat len.toNat ++ List.replicate (2 ^ k - len.toNat) 0), none⟩)
          cseq := s.cseq + 1
          busy := false })) ∧
    (s.getPoly pd = none → (∀ k, len.toNat ≠ 2 ^ k) →
      exec (.pnewp pd src len) s = .next (raise (trap .nPow2 len.toNat 0x61 0) s)) ∧
    (s.getPoly pd = none → ∀ k, len.toNat = 2 ^ k →
      (s.cfg.pMaxDeg < 2 ^ k → exec (.pnewp pd src len) s = .next (raise (trap .capacity (2 ^ k) s.cfg.pMaxDeg 2) s)) ∧
      (2 ^ k ≤ s.cfg.pMaxDeg → s.cfg.vmSize < src.toNat + 2 ^ k →
        exec (.pnewp pd src len) s = .next (raise (trap .vmBounds src.toNat len.toNat 0) s)) ∧
      (2 ^ k ≤ s.cfg.pMaxDeg → src.toNat + 2 ^ k ≤ s.cfg.vmSize →
        allReduced s.cfg (s.memRead src.toNat (2 ^ k)) = true →
        exec (.pnewp pd src len) s = .next { s with
          pd := s.pd.setIfInBounds pd.toNat (some ⟨2 ^ k, none, some (s.memRead src.toNat (2 ^ k))⟩)
          cseq := s.cseq + 1
          busy := false }))

/-- `PEXT`, `PCOEF`, `PPOINT`: extension drops the points and appends zeros, forcing adds the missing form by a transform and
keeps the other, and neither does anything where nothing is missing; with their faults in their order (45_polynomial.md R260,
R262, R265, R266, R272, R273). That `RINIT` is set exactly when a missing form is computed, degree 1 included,
is the model's reading of R260, log entry 21. -/
def Obligations.PolynomialFormsAreForced : Prop :=
  ∀ (s : State) (pd : PolyIdx) (target : Word), isPoly pd = true →
    (s.getPoly pd = none →
      exec (.pext pd target) s = .next (raise (trap .polyState pd.toNat 2 0) s) ∧
      exec (.pcoef pd) s = .next (raise (trap .polyState pd.toNat 2 0) s) ∧
      exec (.ppoint pd) s = .next (raise (trap .polyState pd.toNat 2 0) s)) ∧
    ∀ (p : Poly) (m : Nat), s.getPoly pd = some p → p.degree = 2 ^ m →
      ((∀ k, target.toNat = 2 ^ k → k < m) →
        exec (.pext pd target) s = .next (raise (trap .degree target.toNat p.degree 0) s)) ∧
      (∀ k, target.toNat = 2 ^ k → m ≤ k →
        (s.cfg.pMaxDeg < 2 ^ k →
          exec (.pext pd target) s = .next (raise (trap .capacity (2 ^ k) s.cfg.pMaxDeg 2) s)) ∧
        (2 ^ k ≤ s.cfg.pMaxDeg → k = m → exec (.pext pd target) s = .next { s with cseq := s.cseq + 1, busy := false }) ∧
        (2 ^ k ≤ s.cfg.pMaxDeg → m < k → p.coef = none → s.cfg.maxLog < m →
          exec (.pext pd target) s = .next (raise (trap .rootOrder p.degree 0 0) s)) ∧
        (2 ^ k ≤ s.cfg.pMaxDeg → m < k → p.coef.isSome = true ∨ m ≤ s.cfg.maxLog →
          allReduced s.cfg p.coefOperands = true →
          exec (.pext pd target) s = .next { s with
            pd := s.pd.setIfInBounds pd.toNat (some ⟨2 ^ k, some (p.coefVec s.cfg ++ List.replicate (2 ^ k - 2 ^ m) 0), none⟩)
            rinit := s.rinit || p.coef.isNone
            cseq := s.cseq + 1
            busy := false })) ∧
      (p.coef.isSome = true → exec (.pcoef pd) s = .next { s with cseq := s.cseq + 1, busy := false }) ∧
      (p.point.isSome = true → exec (.ppoint pd) s = .next { s with cseq := s.cseq + 1, busy := false }) ∧
      (p.coef = none → s.cfg.maxLog < m → exec (.pcoef pd) s = .next (raise (trap .rootOrder p.degree 0 0) s)) ∧
      (p.point = none → s.cfg.maxLog < m → exec (.ppoint pd) s = .next (raise (trap .rootOrder p.degree 0 0) s)) ∧
      ∀ v : List U256, s.cfg.WellFormed → m ≤ s.cfg.maxLog → v.length = 2 ^ m → allReduced s.cfg v = true →
        (p.coef = none → p.point = some v → ∃ u, dft s.cfg m u = v ∧ u.length = 2 ^ m ∧ allReduced s.cfg u = true ∧
          exec (.pcoef pd) s = .next { s with
            pd := s.pd.setIfInBounds pd.toNat (some { p with coef := some u })
            rinit := true
            cseq := s.cseq + 1
            busy := false }) ∧
        (p.point = none → p.coef = some v →
          exec (.ppoint pd) s = .next { s with
            pd := s.pd.setIfInBounds pd.toNat (some { p with point := some (dft s.cfg m v) })
            rinit := true
            cseq := s.cseq + 1
            busy := false })

/-- `PADD` extends both sources in place to the larger degree and writes the elementwise sum, whichever of the three
descriptors coincide, with its faults in their order (45_polynomial.md R260, R267, R268). That `RINIT` is set
exactly when a source's coefficients were missing, degree 1 included, is the model's reading of R260, log entry 21. -/
def Obligations.PaddAddsInPlace : Prop :=
  ∀ (s : State) (pd pa pb : PolyIdx), isPoly pd = true → isPoly pa = true → isPoly pb = true →
    (s.getPoly pa = none → exec (.padd pd pa pb) s = .next (raise (trap .polyState pa.toNat 2 0) s)) ∧
    ∀ p, s.getPoly pa = some p →
      (s.getPoly pb = none → exec (.padd pd pa pb) s = .next (raise (trap .polyState pb.toNat 2 0) s)) ∧
      ∀ q, s.getPoly pb = some q →
        (pd ≠ pa → pd ≠ pb → (s.getPoly pd).isSome = true →
          exec (.padd pd pa pb) s = .next (raise (trap .polyState pd.toNat 1 0) s)) ∧
        (pd = pa ∨ pd = pb ∨ s.getPoly pd = none →
          (p.coef = none → s.cfg.maxLog < p.degree.log2 →
            exec (.padd pd pa pb) s = .next (raise (trap .rootOrder p.degree 0 0) s)) ∧
          (p.coef.isSome = true ∨ p.degree.log2 ≤ s.cfg.maxLog →
            (q.coef = none → s.cfg.maxLog < q.degree.log2 →
              exec (.padd pd pa pb) s = .next (raise (trap .rootOrder q.degree 0 0) s)) ∧
            (q.coef.isSome = true ∨ q.degree.log2 ≤ s.cfg.maxLog → p.Ok s.cfg → q.Ok s.cfg →
              allReduced s.cfg p.coefOperands = true → allReduced s.cfg q.coefOperands = true →
              let d := max p.degree q.degree
              exec (.padd pd pa pb) s = .next { s with
                pd := ((s.pd.setIfInBounds pa.toNat (some (p.stretch s.cfg d))).setIfInBounds pb.toNat
                  (some (q.stretch s.cfg d))).setIfInBounds pd.toNat
                  (some ⟨d, some (List.zipWith (monAdd s.cfg) (p.padded s.cfg d) (q.padded s.cfg d)), none⟩)
                rinit := s.rinit || p.coef.isNone || q.coef.isNone
                cseq := s.cseq + 1
                busy := false })))

/-- `PMUL` extends both sources in place to twice the larger degree, leaves them with both forms, and writes the pointwise
product, whose inverse transform is the polynomial product; with its faults in their order (45_polynomial.md R260, R267, R269,
R270). `RINIT` is set because it always transforms (R260, log entry 21). -/
def Obligations.PmulMultipliesPolynomials : Prop :=
  ∀ (s : State) (pd pa pb : PolyIdx), isPoly pd = true → isPoly pa = true → isPoly pb = true →
    (s.getPoly pa = none → exec (.pmul pd pa pb) s = .next (raise (trap .polyState pa.toNat 2 0) s)) ∧
    ∀ p, s.getPoly pa = some p →
      (s.getPoly pb = none → exec (.pmul pd pa pb) s = .next (raise (trap .polyState pb.toNat 2 0) s)) ∧
      ∀ q, s.getPoly pb = some q →
        (pd ≠ pa → pd ≠ pb → (s.getPoly pd).isSome = true →
          exec (.pmul pd pa pb) s = .next (raise (trap .polyState pd.toNat 1 0) s)) ∧
        ∀ k, pd = pa ∨ pd = pb ∨ s.getPoly pd = none → 2 * max p.degree q.degree = 2 ^ k →
          (s.cfg.pMaxDeg < 2 ^ k →
            exec (.pmul pd pa pb) s = .next (raise (trap .capacity (2 ^ k) s.cfg.pMaxDeg 2) s)) ∧
          (2 ^ k ≤ s.cfg.pMaxDeg → s.cfg.maxLog < k →
            exec (.pmul pd pa pb) s = .next (raise (trap .rootOrder (2 ^ k) 0 0) s)) ∧
          (s.cfg.WellFormed → 2 ^ k ≤ s.cfg.pMaxDeg → k ≤ s.cfg.maxLog → p.Ok s.cfg → q.Ok s.cfg →
            allReduced s.cfg p.coefOperands = true → allReduced s.cfg q.coefOperands = true →
            let u := p.padded s.cfg (2 ^ k)
            let v := q.padded s.cfg (2 ^ k)
            let r := List.zipWith (monPro s.cfg) (dft s.cfg k u) (dft s.cfg k v)
            exec (.pmul pd pa pb) s = .next { s with
              pd := ((s.pd.setIfInBounds pa.toNat (some ⟨2 ^ k, some u, some (dft s.cfg k u)⟩)).setIfInBounds pb.toNat
                (some ⟨2 ^ k, some v, some (dft s.cfg k v)⟩)).setIfInBounds pd.toNat (some ⟨2 ^ k, none, some r⟩)
              rinit := true
              cseq := s.cseq + 1
              busy := false } ∧
            invFft s.cfg k r = convolve s.cfg (2 ^ k) (p.coefVec s.cfg) (q.coefVec s.cfg))

/-- `PEVAL` evaluates, `PSTC` and `PSTP` write a form to `VM`; each forces the form it reads; with their faults in their order
(45_polynomial.md R260, R271, R275, R276). That `RINIT` is set exactly when the form was missing, degree 1 included,
is the model's reading of R260, log entry 21. -/
def Obligations.PolynomialsAreEvaluatedAndReadOut : Prop :=
  ∀ (s : State) (fd fx : RegIdx) (pa : PolyIdx) (dst : Word), isReg fd = true → isReg fx = true → isPoly pa = true →
    (s.getPoly pa = none →
      exec (.peval fd pa fx) s = .next (raise (trap .polyState pa.toNat 2 0) s) ∧
      exec (.pstc pa dst) s = .next (raise (trap .polyState pa.toNat 2 0) s) ∧
      exec (.pstp pa dst) s = .next (raise (trap .polyState pa.toNat 2 0) s)) ∧
    ∀ p, s.getPoly pa = some p → p.Ok s.cfg →
      let needCoef := p.coef = none ∧ s.cfg.maxLog < p.degree.log2
      let needPoint := p.point = none ∧ s.cfg.maxLog < p.degree.log2
      let forced := fun (q : Poly) (t : State) (missing : Bool) => Host.Outcome.next (φ := Fault) (ρ := Refusal)
        { t with
          pd := s.pd.setIfInBounds pa.toNat (some q)
          rinit := s.rinit || missing
          cseq := s.cseq + 1
          busy := false }
      (needCoef → exec (.peval fd pa fx) s = .next (raise (trap .rootOrder p.degree 0 0) s) ∧
        exec (.pstc pa dst) s = .next (raise (trap .rootOrder p.degree 0 0) s)) ∧
      (needPoint → exec (.pstp pa dst) s = .next (raise (trap .rootOrder p.degree 0 0) s)) ∧
      (s.cfg.vmSize < dst.toNat + p.degree →
        (¬ needCoef → exec (.pstc pa dst) s = .next (raise (trap .vmBounds dst.toNat p.degree 0) s)) ∧
        (¬ needPoint → exec (.pstp pa dst) s = .next (raise (trap .vmBounds dst.toNat p.degree 0) s))) ∧
      (s.cfg.WellFormed → ¬ needCoef → allReduced s.cfg p.coefOperands = true → (s.getF fx).toNat < s.cfg.n.toNat →
        ∃ v : U256, v.toNat < s.cfg.n.toNat ∧
          s.cfg.denote v = ∑ i ∈ Finset.range p.degree,
            s.cfg.denote ((p.coefVec s.cfg).getD i 0) * s.cfg.denote (s.getF fx) ^ i ∧
          exec (.peval fd pa fx) s = forced { p with coef := some (p.coefVec s.cfg) }
            { s with f := s.f.setIfInBounds fd.toNat v } p.coef.isNone) ∧
      (¬ needCoef → allReduced s.cfg p.coefOperands = true → dst.toNat + p.degree ≤ s.cfg.vmSize →
        exec (.pstc pa dst) s = forced { p with coef := some (p.coefVec s.cfg) }
          (s.memWrite dst.toNat (p.coefVec s.cfg)) p.coef.isNone) ∧
      (¬ needPoint → allReduced s.cfg p.pointOperands = true → dst.toNat + p.degree ≤ s.cfg.vmSize →
        exec (.pstp pa dst) s = forced { p with point := some (p.pointVec s.cfg) }
          (s.memWrite dst.toNat (p.pointVec s.cfg)) p.point.isNone)

/-- Where every descriptor's elements are reduced and its two forms agree, so they are after every command whose own element
operands are reduced (10_state.md R41; 45_polynomial.md R278(e)). -/
def Obligations.PolynomialFormsStayEqual : Prop :=
  ∀ (i : Instr) (s t : State), s.cfg.WellFormed → s.Inv → s.PolysFaithful → createsReduced i s → exec i s = .next t →
    t.PolysFaithful

/-- Where every element register is reduced, so it is after every command of families 0x2_ and 0x3_ (10_state.md R22;
42_field_element.md R170). -/
def Obligations.FieldCommandsKeepRegistersReduced : Prop :=
  ∀ (i : Instr) (s t : State), s.cfg.WellFormed → s.RegistersReduced → isFieldCommand i = true → exec i s = .next t →
    t.RegistersReduced
end

