-- ==== Sys2Proof/Laws/Arith.lean ====
section
/-! SUPPORT. What the arithmetic functions do, once each. -/

namespace Sys2Proof.Laws

open Sys2Proof.Machine

/-- Square-and-multiply is the power modulo `m`. -/
theorem powMod_spec (m : Nat) : ∀ fuel b e, e < 2 ^ fuel → powMod m fuel b e = b ^ e % m
  | 0, b, e, h => by
    have : e = 0 := by omega
    simp [powMod, this]
  | fuel + 1, b, e, h => by
    unfold powMod
    have ih := powMod_spec m fuel (b * b % m) (e / 2) (by omega)
    split
    · simp [*]
    · have hsq : (b * b % m) ^ (e / 2) % m = b ^ (2 * (e / 2)) % m := by
        rw [← Nat.pow_mod, ← pow_two, ← pow_mul]
      simp only [ih, hsq]
      split
      · have he : e = 2 * (e / 2) + 1 := by omega
        conv_rhs => rw [he, pow_succ, mul_comm]
        simp [Nat.mul_mod]
      · have he : e = 2 * (e / 2) := by omega
        conv_rhs => rw [he]

/-! Lengths -/

theorem evens_odds_length : ∀ v : List U256,
    (evens v).length = (v.length + 1) / 2 ∧ (odds v).length = v.length / 2
  | [] => by simp [evens, odds]
  | [a] => by simp [evens, odds]
  | a :: b :: v => by
    have := evens_odds_length v
    simp only [evens, odds, List.length_cons]
    omega

/-- The even and the odd half of a list of length `2^(k+1)`. -/
theorem halves_length {k : Nat} {v : List U256} (h : v.length = 2 ^ (k + 1)) :
    (evens v).length = 2 ^ k ∧ (odds v).length = 2 ^ k := by
  have := evens_odds_length v
  rw [pow_succ] at h
  omega

@[simp] theorem powersFrom_length (c : Cfg) (w : U256) : ∀ count p, (powersFrom c w count p).length = count
  | 0, _ => rfl
  | count + 1, p => by simp [powersFrom, powersFrom_length c w count]

/-- The butterflies of two halves of one length make a list of twice that length. -/
theorem combine_length (c : Cfg) (w : U256) {y0 y1 : List U256} {h : Nat} (h0 : y0.length = h) (h1 : y1.length = h) :
    (combine c w y0 y1).length = 2 * h := by
  simp [combine, h0, h1]
  omega

theorem recFft_length (c : Cfg) : ∀ k v, v.length = 2 ^ k → (recFft c k v).length = 2 ^ k
  | 0, _, h => h
  | k + 1, v, h => by
    have := halves_length h
    rw [recFft, combine_length c _ (recFft_length c k _ this.1) (recFft_length c k _ this.2), pow_succ]
    omega

@[simp] theorem invFft_length (c : Cfg) (k : Nat) (v : List U256) : (invFft c k v).length = 2 ^ k := by simp [invFft]

@[simp] theorem dft_length (c : Cfg) (k : Nat) (v : List U256) : (dft c k v).length = 2 ^ k := by simp [dft]

@[simp] theorem fourStep_length (c : Cfg) (a b : Nat) (v : List U256) : (fourStep c a b v).length = 2 ^ (a + b) := by
  simp [fourStep]

theorem stageBlocks_length (c : Cfg) (w : U256) (h : Nat) :
    ∀ count v, v.length = count * (2 * h) → (stageBlocks c w h count v).length = count * (2 * h)
  | 0, _, _ => by simp [stageBlocks]
  | count + 1, v, hv => by
    rw [Nat.add_mul, Nat.one_mul] at hv
    have h1 : (v.take h).length = h := by simp; omega
    have h2 : ((v.drop h).take h).length = h := by simp; omega
    have h3 : (v.drop (2 * h)).length = count * (2 * h) := by simp; omega
    rw [stageBlocks, List.length_append, combine_length c w h1 h2, stageBlocks_length c w h count _ h3, Nat.add_mul, Nat.one_mul, Nat.add_comm]

/-- One stage keeps the length. -/
theorem radix2Stage_length (c : Cfg) (k : Nat) (w : U256) (v : List U256) (s : Nat) (h0 : 1 ≤ s) (h1 : s ≤ k)
    (hv : v.length = 2 ^ k) : (radix2Stage c k w v s).length = 2 ^ k := by
  have : 2 ^ (k - s) * (2 * 2 ^ (s - 1)) = 2 ^ k := by
    rw [← pow_succ', ← pow_add]; congr 1; omega
  unfold radix2Stage
  rw [stageBlocks_length _ _ _ _ _ (by rw [this, hv]), this]

/-- The iterative transform has length `2^k`. -/
theorem radix2Fft_length (c : Cfg) (k : Nat) (w : U256) (v : List U256) : (radix2Fft c k w v).length = 2 ^ k := by
  have : ∀ (l : List Nat) (u : List U256), (∀ s ∈ l, 1 ≤ s ∧ s ≤ k) → u.length = 2 ^ k →
      (l.foldl (radix2Stage c k w) u).length = 2 ^ k := by
    intro l
    induction l with
    | nil => intro u _ hu; simpa using hu
    | cons s l ih =>
      intro u hl hu
      have hs := hl s (by simp)
      exact ih _ (fun x hx => hl x (by simp [hx])) (radix2Stage_length c k w u s hs.1 hs.2 hu)
  refine this _ _ ?_ (by simp [bitReversePermute])
  intro s hs
  obtain ⟨a, ha, rfl⟩ := List.mem_map.1 hs
  have := List.mem_range.1 ha
  omega

/-! Powers of two -/

/-- `isPow2` says what it is called. -/
theorem isPow2_iff (n : Nat) : isPow2 n = true ↔ ∃ k, n = 2 ^ k := by
  constructor
  · intro h
    exact ⟨n.log2, by simpa [isPow2] using h⟩
  · rintro ⟨k, rfl⟩
    simp [isPow2, Nat.log2_two_pow]

theorem isPow2_pow (k : Nat) : isPow2 (2 ^ k) = true := (isPow2_iff _).2 ⟨k, rfl⟩

/-- `ceilPow2 n` is a power of two, at least `n`, as 45_polynomial.md R263 asks. -/
theorem ceilPow2_spec (n : Nat) : isPow2 (ceilPow2 n) = true ∧ n ≤ ceilPow2 n := by
  unfold ceilPow2
  split
  · exact ⟨isPow2_pow 0, by assumption⟩
  · split
    · exact ⟨by assumption, le_rfl⟩
    · exact ⟨isPow2_pow _, Nat.lt_log2_self.le⟩

end Sys2Proof.Laws
end

