-- ==== Sys2Proof/Laws/Decode.lean ====
section
/-! SUPPORT. The fields of a command word and the word of its fields determine each other (30_encoding.md R100, R101). -/

namespace Sys2Proof.Laws

/-- Bit `k` of a packed command, by field. -/
theorem toCommand_bit (f : Fields) (k : Nat) :
    f.toCommand.getLsbD k =
      if k < 8 then f.op.getLsbD k else if k < 16 then f.d.getLsbD (k - 8) else if k < 24 then f.a.getLsbD (k - 16)
      else if k < 32 then f.b.getLsbD (k - 24) else if k < 64 then f.x.getLsbD (k - 32)
      else if k < 96 then f.y.getLsbD (k - 64) else f.z.getLsbD (k - 96) := by
  unfold Fields.toCommand
  simp only [BitVec.getLsbD_append]
  split_ifs <;> first | rfl | (exfalso; omega)

/-- Unpacking a packed command gives its fields back. -/
theorem ofCommand_toCommand (f : Fields) : Fields.ofCommand f.toCommand = f := by
  cases f with
  | mk op d a b x y z =>
    simp only [Fields.ofCommand, Fields.mk.injEq]
    refine ⟨?_, ?_, ?_, ?_, ?_, ?_, ?_⟩ <;> apply BitVec.eq_of_getLsbD_eq <;> intro i hi <;>
      rw [BitVec.getLsbD_extractLsb', toCommand_bit] <;> simp only [hi, decide_true, Bool.true_and] <;>
      split_ifs <;> first | rfl | (exfalso; omega) | (congr 1; omega)

/-- Packing the fields of a command gives the command back. -/
theorem toCommand_ofCommand (cmd : Command) : (Fields.ofCommand cmd).toCommand = cmd := by
  apply BitVec.eq_of_getLsbD_eq
  intro i hi
  rw [toCommand_bit]
  simp only [Fields.ofCommand, BitVec.getLsbD_extractLsb']
  have key : ∀ start len k, k < len → (decide (k < len) && cmd.getLsbD (start + k)) = cmd.getLsbD (start + k) := by
    intro start len k h; simp [h]
  split_ifs <;> rw [key _ _ _ (by omega)] <;> congr 1 <;> omega

end Sys2Proof.Laws
end

