-- ==== Sys2Proof/Laws/State.lean ====
section
/-! SUPPORT. One lemma per field per update of `State`, each true by `rfl`: proofs cite these and unfold no update. -/

namespace Sys2Proof.Machine

@[simp] theorem State.setF_cfg (s : State) (r : RegIdx) (v : U256) : (s.setF r v).cfg = s.cfg := rfl
@[simp] theorem State.setF_f (s : State) (r : RegIdx) (v : U256) : (s.setF r v).f = s.f.setIfInBounds r.toNat v := rfl
@[simp] theorem State.setF_w (s : State) (r : RegIdx) (v : U256) : (s.setF r v).w = s.w := rfl
@[simp] theorem State.setF_flagC (s : State) (r : RegIdx) (v : U256) : (s.setF r v).flagC = s.flagC := rfl
@[simp] theorem State.setF_flagS (s : State) (r : RegIdx) (v : U256) : (s.setF r v).flagS = s.flagS := rfl
@[simp] theorem State.setF_flagZ (s : State) (r : RegIdx) (v : U256) : (s.setF r v).flagZ = s.flagZ := rfl
@[simp] theorem State.setF_cseq (s : State) (r : RegIdx) (v : U256) : (s.setF r v).cseq = s.cseq := rfl
@[simp] theorem State.setF_busy (s : State) (r : RegIdx) (v : U256) : (s.setF r v).busy = s.busy := rfl
@[simp] theorem State.setF_fault (s : State) (r : RegIdx) (v : U256) : (s.setF r v).fault = s.fault := rfl
@[simp] theorem State.setF_rinit (s : State) (r : RegIdx) (v : U256) : (s.setF r v).rinit = s.rinit := rfl
@[simp] theorem State.setF_frec (s : State) (r : RegIdx) (v : U256) : (s.setF r v).frec = s.frec := rfl
@[simp] theorem State.setF_res0 (s : State) (r : RegIdx) (v : U256) : (s.setF r v).res0 = s.res0 := rfl
@[simp] theorem State.setF_res1 (s : State) (r : RegIdx) (v : U256) : (s.setF r v).res1 = s.res1 := rfl
@[simp] theorem State.setF_res2 (s : State) (r : RegIdx) (v : U256) : (s.setF r v).res2 = s.res2 := rfl
@[simp] theorem State.setF_vm (s : State) (r : RegIdx) (v : U256) : (s.setF r v).vm = s.vm := rfl
@[simp] theorem State.setF_jt (s : State) (r : RegIdx) (v : U256) : (s.setF r v).jt = s.jt := rfl
@[simp] theorem State.setF_pd (s : State) (r : RegIdx) (v : U256) : (s.setF r v).pd = s.pd := rfl
@[simp] theorem State.setF_cmd0 (s : State) (r : RegIdx) (v : U256) : (s.setF r v).cmd0 = s.cmd0 := rfl
@[simp] theorem State.setF_cmd1 (s : State) (r : RegIdx) (v : U256) : (s.setF r v).cmd1 = s.cmd1 := rfl
@[simp] theorem State.setF_cmd2 (s : State) (r : RegIdx) (v : U256) : (s.setF r v).cmd2 = s.cmd2 := rfl
@[simp] theorem State.setF_current (s : State) (r : RegIdx) (v : U256) : (s.setF r v).current = s.current := rfl
@[simp] theorem State.setF_host (s : State) (r : RegIdx) (v : U256) : (s.setF r v).host = s.host := rfl
@[simp] theorem State.setF_rdata (s : State) (r : RegIdx) (v : U256) : (s.setF r v).rdata = s.rdata := rfl
@[simp] theorem State.setF_draws (s : State) (r : RegIdx) (v : U256) : (s.setF r v).draws = s.draws := rfl
@[simp] theorem State.setF_epoch (s : State) (r : RegIdx) (v : U256) : (s.setF r v).epoch = s.epoch := rfl

@[simp] theorem State.setW_cfg (s : State) (v : BitVec 512) : (s.setW v).cfg = s.cfg := rfl
@[simp] theorem State.setW_f (s : State) (v : BitVec 512) : (s.setW v).f = s.f := rfl
@[simp] theorem State.setW_w (s : State) (v : BitVec 512) : (s.setW v).w = v := rfl
@[simp] theorem State.setW_flagC (s : State) (v : BitVec 512) : (s.setW v).flagC = s.flagC := rfl
@[simp] theorem State.setW_flagS (s : State) (v : BitVec 512) : (s.setW v).flagS = s.flagS := rfl
@[simp] theorem State.setW_flagZ (s : State) (v : BitVec 512) : (s.setW v).flagZ = s.flagZ := rfl
@[simp] theorem State.setW_cseq (s : State) (v : BitVec 512) : (s.setW v).cseq = s.cseq := rfl
@[simp] theorem State.setW_busy (s : State) (v : BitVec 512) : (s.setW v).busy = s.busy := rfl
@[simp] theorem State.setW_fault (s : State) (v : BitVec 512) : (s.setW v).fault = s.fault := rfl
@[simp] theorem State.setW_rinit (s : State) (v : BitVec 512) : (s.setW v).rinit = s.rinit := rfl
@[simp] theorem State.setW_frec (s : State) (v : BitVec 512) : (s.setW v).frec = s.frec := rfl
@[simp] theorem State.setW_res0 (s : State) (v : BitVec 512) : (s.setW v).res0 = s.res0 := rfl
@[simp] theorem State.setW_res1 (s : State) (v : BitVec 512) : (s.setW v).res1 = s.res1 := rfl
@[simp] theorem State.setW_res2 (s : State) (v : BitVec 512) : (s.setW v).res2 = s.res2 := rfl
@[simp] theorem State.setW_vm (s : State) (v : BitVec 512) : (s.setW v).vm = s.vm := rfl
@[simp] theorem State.setW_jt (s : State) (v : BitVec 512) : (s.setW v).jt = s.jt := rfl
@[simp] theorem State.setW_pd (s : State) (v : BitVec 512) : (s.setW v).pd = s.pd := rfl
@[simp] theorem State.setW_cmd0 (s : State) (v : BitVec 512) : (s.setW v).cmd0 = s.cmd0 := rfl
@[simp] theorem State.setW_cmd1 (s : State) (v : BitVec 512) : (s.setW v).cmd1 = s.cmd1 := rfl
@[simp] theorem State.setW_cmd2 (s : State) (v : BitVec 512) : (s.setW v).cmd2 = s.cmd2 := rfl
@[simp] theorem State.setW_current (s : State) (v : BitVec 512) : (s.setW v).current = s.current := rfl
@[simp] theorem State.setW_host (s : State) (v : BitVec 512) : (s.setW v).host = s.host := rfl
@[simp] theorem State.setW_rdata (s : State) (v : BitVec 512) : (s.setW v).rdata = s.rdata := rfl
@[simp] theorem State.setW_draws (s : State) (v : BitVec 512) : (s.setW v).draws = s.draws := rfl
@[simp] theorem State.setW_epoch (s : State) (v : BitVec 512) : (s.setW v).epoch = s.epoch := rfl

@[simp] theorem State.setC_cfg (s : State) (b : Bool) : (s.setC b).cfg = s.cfg := rfl
@[simp] theorem State.setC_f (s : State) (b : Bool) : (s.setC b).f = s.f := rfl
@[simp] theorem State.setC_w (s : State) (b : Bool) : (s.setC b).w = s.w := rfl
@[simp] theorem State.setC_flagC (s : State) (b : Bool) : (s.setC b).flagC = b := rfl
@[simp] theorem State.setC_flagS (s : State) (b : Bool) : (s.setC b).flagS = s.flagS := rfl
@[simp] theorem State.setC_flagZ (s : State) (b : Bool) : (s.setC b).flagZ = s.flagZ := rfl
@[simp] theorem State.setC_cseq (s : State) (b : Bool) : (s.setC b).cseq = s.cseq := rfl
@[simp] theorem State.setC_busy (s : State) (b : Bool) : (s.setC b).busy = s.busy := rfl
@[simp] theorem State.setC_fault (s : State) (b : Bool) : (s.setC b).fault = s.fault := rfl
@[simp] theorem State.setC_rinit (s : State) (b : Bool) : (s.setC b).rinit = s.rinit := rfl
@[simp] theorem State.setC_frec (s : State) (b : Bool) : (s.setC b).frec = s.frec := rfl
@[simp] theorem State.setC_res0 (s : State) (b : Bool) : (s.setC b).res0 = s.res0 := rfl
@[simp] theorem State.setC_res1 (s : State) (b : Bool) : (s.setC b).res1 = s.res1 := rfl
@[simp] theorem State.setC_res2 (s : State) (b : Bool) : (s.setC b).res2 = s.res2 := rfl
@[simp] theorem State.setC_vm (s : State) (b : Bool) : (s.setC b).vm = s.vm := rfl
@[simp] theorem State.setC_jt (s : State) (b : Bool) : (s.setC b).jt = s.jt := rfl
@[simp] theorem State.setC_pd (s : State) (b : Bool) : (s.setC b).pd = s.pd := rfl
@[simp] theorem State.setC_cmd0 (s : State) (b : Bool) : (s.setC b).cmd0 = s.cmd0 := rfl
@[simp] theorem State.setC_cmd1 (s : State) (b : Bool) : (s.setC b).cmd1 = s.cmd1 := rfl
@[simp] theorem State.setC_cmd2 (s : State) (b : Bool) : (s.setC b).cmd2 = s.cmd2 := rfl
@[simp] theorem State.setC_current (s : State) (b : Bool) : (s.setC b).current = s.current := rfl
@[simp] theorem State.setC_host (s : State) (b : Bool) : (s.setC b).host = s.host := rfl
@[simp] theorem State.setC_rdata (s : State) (b : Bool) : (s.setC b).rdata = s.rdata := rfl
@[simp] theorem State.setC_draws (s : State) (b : Bool) : (s.setC b).draws = s.draws := rfl
@[simp] theorem State.setC_epoch (s : State) (b : Bool) : (s.setC b).epoch = s.epoch := rfl

@[simp] theorem State.setS_cfg (s : State) (b : Bool) : (s.setS b).cfg = s.cfg := rfl
@[simp] theorem State.setS_f (s : State) (b : Bool) : (s.setS b).f = s.f := rfl
@[simp] theorem State.setS_w (s : State) (b : Bool) : (s.setS b).w = s.w := rfl
@[simp] theorem State.setS_flagC (s : State) (b : Bool) : (s.setS b).flagC = s.flagC := rfl
@[simp] theorem State.setS_flagS (s : State) (b : Bool) : (s.setS b).flagS = b := rfl
@[simp] theorem State.setS_flagZ (s : State) (b : Bool) : (s.setS b).flagZ = s.flagZ := rfl
@[simp] theorem State.setS_cseq (s : State) (b : Bool) : (s.setS b).cseq = s.cseq := rfl
@[simp] theorem State.setS_busy (s : State) (b : Bool) : (s.setS b).busy = s.busy := rfl
@[simp] theorem State.setS_fault (s : State) (b : Bool) : (s.setS b).fault = s.fault := rfl
@[simp] theorem State.setS_rinit (s : State) (b : Bool) : (s.setS b).rinit = s.rinit := rfl
@[simp] theorem State.setS_frec (s : State) (b : Bool) : (s.setS b).frec = s.frec := rfl
@[simp] theorem State.setS_res0 (s : State) (b : Bool) : (s.setS b).res0 = s.res0 := rfl
@[simp] theorem State.setS_res1 (s : State) (b : Bool) : (s.setS b).res1 = s.res1 := rfl
@[simp] theorem State.setS_res2 (s : State) (b : Bool) : (s.setS b).res2 = s.res2 := rfl
@[simp] theorem State.setS_vm (s : State) (b : Bool) : (s.setS b).vm = s.vm := rfl
@[simp] theorem State.setS_jt (s : State) (b : Bool) : (s.setS b).jt = s.jt := rfl
@[simp] theorem State.setS_pd (s : State) (b : Bool) : (s.setS b).pd = s.pd := rfl
@[simp] theorem State.setS_cmd0 (s : State) (b : Bool) : (s.setS b).cmd0 = s.cmd0 := rfl
@[simp] theorem State.setS_cmd1 (s : State) (b : Bool) : (s.setS b).cmd1 = s.cmd1 := rfl
@[simp] theorem State.setS_cmd2 (s : State) (b : Bool) : (s.setS b).cmd2 = s.cmd2 := rfl
@[simp] theorem State.setS_current (s : State) (b : Bool) : (s.setS b).current = s.current := rfl
@[simp] theorem State.setS_host (s : State) (b : Bool) : (s.setS b).host = s.host := rfl
@[simp] theorem State.setS_rdata (s : State) (b : Bool) : (s.setS b).rdata = s.rdata := rfl
@[simp] theorem State.setS_draws (s : State) (b : Bool) : (s.setS b).draws = s.draws := rfl
@[simp] theorem State.setS_epoch (s : State) (b : Bool) : (s.setS b).epoch = s.epoch := rfl

@[simp] theorem State.setZ_cfg (s : State) (b : Bool) : (s.setZ b).cfg = s.cfg := rfl
@[simp] theorem State.setZ_f (s : State) (b : Bool) : (s.setZ b).f = s.f := rfl
@[simp] theorem State.setZ_w (s : State) (b : Bool) : (s.setZ b).w = s.w := rfl
@[simp] theorem State.setZ_flagC (s : State) (b : Bool) : (s.setZ b).flagC = s.flagC := rfl
@[simp] theorem State.setZ_flagS (s : State) (b : Bool) : (s.setZ b).flagS = s.flagS := rfl
@[simp] theorem State.setZ_flagZ (s : State) (b : Bool) : (s.setZ b).flagZ = b := rfl
@[simp] theorem State.setZ_cseq (s : State) (b : Bool) : (s.setZ b).cseq = s.cseq := rfl
@[simp] theorem State.setZ_busy (s : State) (b : Bool) : (s.setZ b).busy = s.busy := rfl
@[simp] theorem State.setZ_fault (s : State) (b : Bool) : (s.setZ b).fault = s.fault := rfl
@[simp] theorem State.setZ_rinit (s : State) (b : Bool) : (s.setZ b).rinit = s.rinit := rfl
@[simp] theorem State.setZ_frec (s : State) (b : Bool) : (s.setZ b).frec = s.frec := rfl
@[simp] theorem State.setZ_res0 (s : State) (b : Bool) : (s.setZ b).res0 = s.res0 := rfl
@[simp] theorem State.setZ_res1 (s : State) (b : Bool) : (s.setZ b).res1 = s.res1 := rfl
@[simp] theorem State.setZ_res2 (s : State) (b : Bool) : (s.setZ b).res2 = s.res2 := rfl
@[simp] theorem State.setZ_vm (s : State) (b : Bool) : (s.setZ b).vm = s.vm := rfl
@[simp] theorem State.setZ_jt (s : State) (b : Bool) : (s.setZ b).jt = s.jt := rfl
@[simp] theorem State.setZ_pd (s : State) (b : Bool) : (s.setZ b).pd = s.pd := rfl
@[simp] theorem State.setZ_cmd0 (s : State) (b : Bool) : (s.setZ b).cmd0 = s.cmd0 := rfl
@[simp] theorem State.setZ_cmd1 (s : State) (b : Bool) : (s.setZ b).cmd1 = s.cmd1 := rfl
@[simp] theorem State.setZ_cmd2 (s : State) (b : Bool) : (s.setZ b).cmd2 = s.cmd2 := rfl
@[simp] theorem State.setZ_current (s : State) (b : Bool) : (s.setZ b).current = s.current := rfl
@[simp] theorem State.setZ_host (s : State) (b : Bool) : (s.setZ b).host = s.host := rfl
@[simp] theorem State.setZ_rdata (s : State) (b : Bool) : (s.setZ b).rdata = s.rdata := rfl
@[simp] theorem State.setZ_draws (s : State) (b : Bool) : (s.setZ b).draws = s.draws := rfl
@[simp] theorem State.setZ_epoch (s : State) (b : Bool) : (s.setZ b).epoch = s.epoch := rfl

@[simp] theorem State.setRes_cfg (s : State) (r0 r1 r2 : Word) : (s.setRes r0 r1 r2).cfg = s.cfg := rfl
@[simp] theorem State.setRes_f (s : State) (r0 r1 r2 : Word) : (s.setRes r0 r1 r2).f = s.f := rfl
@[simp] theorem State.setRes_w (s : State) (r0 r1 r2 : Word) : (s.setRes r0 r1 r2).w = s.w := rfl
@[simp] theorem State.setRes_flagC (s : State) (r0 r1 r2 : Word) : (s.setRes r0 r1 r2).flagC = s.flagC := rfl
@[simp] theorem State.setRes_flagS (s : State) (r0 r1 r2 : Word) : (s.setRes r0 r1 r2).flagS = s.flagS := rfl
@[simp] theorem State.setRes_flagZ (s : State) (r0 r1 r2 : Word) : (s.setRes r0 r1 r2).flagZ = s.flagZ := rfl
@[simp] theorem State.setRes_cseq (s : State) (r0 r1 r2 : Word) : (s.setRes r0 r1 r2).cseq = s.cseq := rfl
@[simp] theorem State.setRes_busy (s : State) (r0 r1 r2 : Word) : (s.setRes r0 r1 r2).busy = s.busy := rfl
@[simp] theorem State.setRes_fault (s : State) (r0 r1 r2 : Word) : (s.setRes r0 r1 r2).fault = s.fault := rfl
@[simp] theorem State.setRes_rinit (s : State) (r0 r1 r2 : Word) : (s.setRes r0 r1 r2).rinit = s.rinit := rfl
@[simp] theorem State.setRes_frec (s : State) (r0 r1 r2 : Word) : (s.setRes r0 r1 r2).frec = s.frec := rfl
@[simp] theorem State.setRes_res0 (s : State) (r0 r1 r2 : Word) : (s.setRes r0 r1 r2).res0 = r0 := rfl
@[simp] theorem State.setRes_res1 (s : State) (r0 r1 r2 : Word) : (s.setRes r0 r1 r2).res1 = r1 := rfl
@[simp] theorem State.setRes_res2 (s : State) (r0 r1 r2 : Word) : (s.setRes r0 r1 r2).res2 = r2 := rfl
@[simp] theorem State.setRes_vm (s : State) (r0 r1 r2 : Word) : (s.setRes r0 r1 r2).vm = s.vm := rfl
@[simp] theorem State.setRes_jt (s : State) (r0 r1 r2 : Word) : (s.setRes r0 r1 r2).jt = s.jt := rfl
@[simp] theorem State.setRes_pd (s : State) (r0 r1 r2 : Word) : (s.setRes r0 r1 r2).pd = s.pd := rfl
@[simp] theorem State.setRes_cmd0 (s : State) (r0 r1 r2 : Word) : (s.setRes r0 r1 r2).cmd0 = s.cmd0 := rfl
@[simp] theorem State.setRes_cmd1 (s : State) (r0 r1 r2 : Word) : (s.setRes r0 r1 r2).cmd1 = s.cmd1 := rfl
@[simp] theorem State.setRes_cmd2 (s : State) (r0 r1 r2 : Word) : (s.setRes r0 r1 r2).cmd2 = s.cmd2 := rfl
@[simp] theorem State.setRes_current (s : State) (r0 r1 r2 : Word) : (s.setRes r0 r1 r2).current = s.current := rfl
@[simp] theorem State.setRes_host (s : State) (r0 r1 r2 : Word) : (s.setRes r0 r1 r2).host = s.host := rfl
@[simp] theorem State.setRes_rdata (s : State) (r0 r1 r2 : Word) : (s.setRes r0 r1 r2).rdata = s.rdata := rfl
@[simp] theorem State.setRes_draws (s : State) (r0 r1 r2 : Word) : (s.setRes r0 r1 r2).draws = s.draws := rfl
@[simp] theorem State.setRes_epoch (s : State) (r0 r1 r2 : Word) : (s.setRes r0 r1 r2).epoch = s.epoch := rfl

@[simp] theorem State.setRinit_cfg (s : State) : (s.setRinit).cfg = s.cfg := rfl
@[simp] theorem State.setRinit_f (s : State) : (s.setRinit).f = s.f := rfl
@[simp] theorem State.setRinit_w (s : State) : (s.setRinit).w = s.w := rfl
@[simp] theorem State.setRinit_flagC (s : State) : (s.setRinit).flagC = s.flagC := rfl
@[simp] theorem State.setRinit_flagS (s : State) : (s.setRinit).flagS = s.flagS := rfl
@[simp] theorem State.setRinit_flagZ (s : State) : (s.setRinit).flagZ = s.flagZ := rfl
@[simp] theorem State.setRinit_cseq (s : State) : (s.setRinit).cseq = s.cseq := rfl
@[simp] theorem State.setRinit_busy (s : State) : (s.setRinit).busy = s.busy := rfl
@[simp] theorem State.setRinit_fault (s : State) : (s.setRinit).fault = s.fault := rfl
@[simp] theorem State.setRinit_rinit (s : State) : (s.setRinit).rinit = true := rfl
@[simp] theorem State.setRinit_frec (s : State) : (s.setRinit).frec = s.frec := rfl
@[simp] theorem State.setRinit_res0 (s : State) : (s.setRinit).res0 = s.res0 := rfl
@[simp] theorem State.setRinit_res1 (s : State) : (s.setRinit).res1 = s.res1 := rfl
@[simp] theorem State.setRinit_res2 (s : State) : (s.setRinit).res2 = s.res2 := rfl
@[simp] theorem State.setRinit_vm (s : State) : (s.setRinit).vm = s.vm := rfl
@[simp] theorem State.setRinit_jt (s : State) : (s.setRinit).jt = s.jt := rfl
@[simp] theorem State.setRinit_pd (s : State) : (s.setRinit).pd = s.pd := rfl
@[simp] theorem State.setRinit_cmd0 (s : State) : (s.setRinit).cmd0 = s.cmd0 := rfl
@[simp] theorem State.setRinit_cmd1 (s : State) : (s.setRinit).cmd1 = s.cmd1 := rfl
@[simp] theorem State.setRinit_cmd2 (s : State) : (s.setRinit).cmd2 = s.cmd2 := rfl
@[simp] theorem State.setRinit_current (s : State) : (s.setRinit).current = s.current := rfl
@[simp] theorem State.setRinit_host (s : State) : (s.setRinit).host = s.host := rfl
@[simp] theorem State.setRinit_rdata (s : State) : (s.setRinit).rdata = s.rdata := rfl
@[simp] theorem State.setRinit_draws (s : State) : (s.setRinit).draws = s.draws := rfl
@[simp] theorem State.setRinit_epoch (s : State) : (s.setRinit).epoch = s.epoch := rfl

@[simp] theorem State.setJob_cfg (s : State) (j : JobIdx) (e : Option JobEntry) : (s.setJob j e).cfg = s.cfg := rfl
@[simp] theorem State.setJob_f (s : State) (j : JobIdx) (e : Option JobEntry) : (s.setJob j e).f = s.f := rfl
@[simp] theorem State.setJob_w (s : State) (j : JobIdx) (e : Option JobEntry) : (s.setJob j e).w = s.w := rfl
@[simp] theorem State.setJob_flagC (s : State) (j : JobIdx) (e : Option JobEntry) : (s.setJob j e).flagC = s.flagC := rfl
@[simp] theorem State.setJob_flagS (s : State) (j : JobIdx) (e : Option JobEntry) : (s.setJob j e).flagS = s.flagS := rfl
@[simp] theorem State.setJob_flagZ (s : State) (j : JobIdx) (e : Option JobEntry) : (s.setJob j e).flagZ = s.flagZ := rfl
@[simp] theorem State.setJob_cseq (s : State) (j : JobIdx) (e : Option JobEntry) : (s.setJob j e).cseq = s.cseq := rfl
@[simp] theorem State.setJob_busy (s : State) (j : JobIdx) (e : Option JobEntry) : (s.setJob j e).busy = s.busy := rfl
@[simp] theorem State.setJob_fault (s : State) (j : JobIdx) (e : Option JobEntry) : (s.setJob j e).fault = s.fault := rfl
@[simp] theorem State.setJob_rinit (s : State) (j : JobIdx) (e : Option JobEntry) : (s.setJob j e).rinit = s.rinit := rfl
@[simp] theorem State.setJob_frec (s : State) (j : JobIdx) (e : Option JobEntry) : (s.setJob j e).frec = s.frec := rfl
@[simp] theorem State.setJob_res0 (s : State) (j : JobIdx) (e : Option JobEntry) : (s.setJob j e).res0 = s.res0 := rfl
@[simp] theorem State.setJob_res1 (s : State) (j : JobIdx) (e : Option JobEntry) : (s.setJob j e).res1 = s.res1 := rfl
@[simp] theorem State.setJob_res2 (s : State) (j : JobIdx) (e : Option JobEntry) : (s.setJob j e).res2 = s.res2 := rfl
@[simp] theorem State.setJob_vm (s : State) (j : JobIdx) (e : Option JobEntry) : (s.setJob j e).vm = s.vm := rfl
@[simp] theorem State.setJob_jt (s : State) (j : JobIdx) (e : Option JobEntry) : (s.setJob j e).jt = s.jt.setIfInBounds j.toNat e := rfl
@[simp] theorem State.setJob_pd (s : State) (j : JobIdx) (e : Option JobEntry) : (s.setJob j e).pd = s.pd := rfl
@[simp] theorem State.setJob_cmd0 (s : State) (j : JobIdx) (e : Option JobEntry) : (s.setJob j e).cmd0 = s.cmd0 := rfl
@[simp] theorem State.setJob_cmd1 (s : State) (j : JobIdx) (e : Option JobEntry) : (s.setJob j e).cmd1 = s.cmd1 := rfl
@[simp] theorem State.setJob_cmd2 (s : State) (j : JobIdx) (e : Option JobEntry) : (s.setJob j e).cmd2 = s.cmd2 := rfl
@[simp] theorem State.setJob_current (s : State) (j : JobIdx) (e : Option JobEntry) : (s.setJob j e).current = s.current := rfl
@[simp] theorem State.setJob_host (s : State) (j : JobIdx) (e : Option JobEntry) : (s.setJob j e).host = s.host := rfl
@[simp] theorem State.setJob_rdata (s : State) (j : JobIdx) (e : Option JobEntry) : (s.setJob j e).rdata = s.rdata := rfl
@[simp] theorem State.setJob_draws (s : State) (j : JobIdx) (e : Option JobEntry) : (s.setJob j e).draws = s.draws := rfl
@[simp] theorem State.setJob_epoch (s : State) (j : JobIdx) (e : Option JobEntry) : (s.setJob j e).epoch = s.epoch := rfl

@[simp] theorem State.setPoly_cfg (s : State) (i : PolyIdx) (p : Option Poly) : (s.setPoly i p).cfg = s.cfg := rfl
@[simp] theorem State.setPoly_f (s : State) (i : PolyIdx) (p : Option Poly) : (s.setPoly i p).f = s.f := rfl
@[simp] theorem State.setPoly_w (s : State) (i : PolyIdx) (p : Option Poly) : (s.setPoly i p).w = s.w := rfl
@[simp] theorem State.setPoly_flagC (s : State) (i : PolyIdx) (p : Option Poly) : (s.setPoly i p).flagC = s.flagC := rfl
@[simp] theorem State.setPoly_flagS (s : State) (i : PolyIdx) (p : Option Poly) : (s.setPoly i p).flagS = s.flagS := rfl
@[simp] theorem State.setPoly_flagZ (s : State) (i : PolyIdx) (p : Option Poly) : (s.setPoly i p).flagZ = s.flagZ := rfl
@[simp] theorem State.setPoly_cseq (s : State) (i : PolyIdx) (p : Option Poly) : (s.setPoly i p).cseq = s.cseq := rfl
@[simp] theorem State.setPoly_busy (s : State) (i : PolyIdx) (p : Option Poly) : (s.setPoly i p).busy = s.busy := rfl
@[simp] theorem State.setPoly_fault (s : State) (i : PolyIdx) (p : Option Poly) : (s.setPoly i p).fault = s.fault := rfl
@[simp] theorem State.setPoly_rinit (s : State) (i : PolyIdx) (p : Option Poly) : (s.setPoly i p).rinit = s.rinit := rfl
@[simp] theorem State.setPoly_frec (s : State) (i : PolyIdx) (p : Option Poly) : (s.setPoly i p).frec = s.frec := rfl
@[simp] theorem State.setPoly_res0 (s : State) (i : PolyIdx) (p : Option Poly) : (s.setPoly i p).res0 = s.res0 := rfl
@[simp] theorem State.setPoly_res1 (s : State) (i : PolyIdx) (p : Option Poly) : (s.setPoly i p).res1 = s.res1 := rfl
@[simp] theorem State.setPoly_res2 (s : State) (i : PolyIdx) (p : Option Poly) : (s.setPoly i p).res2 = s.res2 := rfl
@[simp] theorem State.setPoly_vm (s : State) (i : PolyIdx) (p : Option Poly) : (s.setPoly i p).vm = s.vm := rfl
@[simp] theorem State.setPoly_jt (s : State) (i : PolyIdx) (p : Option Poly) : (s.setPoly i p).jt = s.jt := rfl
@[simp] theorem State.setPoly_pd (s : State) (i : PolyIdx) (p : Option Poly) : (s.setPoly i p).pd = s.pd.setIfInBounds i.toNat p := rfl
@[simp] theorem State.setPoly_cmd0 (s : State) (i : PolyIdx) (p : Option Poly) : (s.setPoly i p).cmd0 = s.cmd0 := rfl
@[simp] theorem State.setPoly_cmd1 (s : State) (i : PolyIdx) (p : Option Poly) : (s.setPoly i p).cmd1 = s.cmd1 := rfl
@[simp] theorem State.setPoly_cmd2 (s : State) (i : PolyIdx) (p : Option Poly) : (s.setPoly i p).cmd2 = s.cmd2 := rfl
@[simp] theorem State.setPoly_current (s : State) (i : PolyIdx) (p : Option Poly) : (s.setPoly i p).current = s.current := rfl
@[simp] theorem State.setPoly_host (s : State) (i : PolyIdx) (p : Option Poly) : (s.setPoly i p).host = s.host := rfl
@[simp] theorem State.setPoly_rdata (s : State) (i : PolyIdx) (p : Option Poly) : (s.setPoly i p).rdata = s.rdata := rfl
@[simp] theorem State.setPoly_draws (s : State) (i : PolyIdx) (p : Option Poly) : (s.setPoly i p).draws = s.draws := rfl
@[simp] theorem State.setPoly_epoch (s : State) (i : PolyIdx) (p : Option Poly) : (s.setPoly i p).epoch = s.epoch := rfl

@[simp] theorem State.memWrite_cfg (s : State) (addr : Nat) (vs : List U256) : (s.memWrite addr vs).cfg = s.cfg := rfl
@[simp] theorem State.memWrite_f (s : State) (addr : Nat) (vs : List U256) : (s.memWrite addr vs).f = s.f := rfl
@[simp] theorem State.memWrite_w (s : State) (addr : Nat) (vs : List U256) : (s.memWrite addr vs).w = s.w := rfl
@[simp] theorem State.memWrite_flagC (s : State) (addr : Nat) (vs : List U256) : (s.memWrite addr vs).flagC = s.flagC := rfl
@[simp] theorem State.memWrite_flagS (s : State) (addr : Nat) (vs : List U256) : (s.memWrite addr vs).flagS = s.flagS := rfl
@[simp] theorem State.memWrite_flagZ (s : State) (addr : Nat) (vs : List U256) : (s.memWrite addr vs).flagZ = s.flagZ := rfl
@[simp] theorem State.memWrite_cseq (s : State) (addr : Nat) (vs : List U256) : (s.memWrite addr vs).cseq = s.cseq := rfl
@[simp] theorem State.memWrite_busy (s : State) (addr : Nat) (vs : List U256) : (s.memWrite addr vs).busy = s.busy := rfl
@[simp] theorem State.memWrite_fault (s : State) (addr : Nat) (vs : List U256) : (s.memWrite addr vs).fault = s.fault := rfl
@[simp] theorem State.memWrite_rinit (s : State) (addr : Nat) (vs : List U256) : (s.memWrite addr vs).rinit = s.rinit := rfl
@[simp] theorem State.memWrite_frec (s : State) (addr : Nat) (vs : List U256) : (s.memWrite addr vs).frec = s.frec := rfl
@[simp] theorem State.memWrite_res0 (s : State) (addr : Nat) (vs : List U256) : (s.memWrite addr vs).res0 = s.res0 := rfl
@[simp] theorem State.memWrite_res1 (s : State) (addr : Nat) (vs : List U256) : (s.memWrite addr vs).res1 = s.res1 := rfl
@[simp] theorem State.memWrite_res2 (s : State) (addr : Nat) (vs : List U256) : (s.memWrite addr vs).res2 = s.res2 := rfl
@[simp] theorem State.memWrite_vm (s : State) (addr : Nat) (vs : List U256) : (s.memWrite addr vs).vm = Memory.store s.vm (32 * addr) (vs.flatMap bytesOf) := rfl
@[simp] theorem State.memWrite_jt (s : State) (addr : Nat) (vs : List U256) : (s.memWrite addr vs).jt = s.jt := rfl
@[simp] theorem State.memWrite_pd (s : State) (addr : Nat) (vs : List U256) : (s.memWrite addr vs).pd = s.pd := rfl
@[simp] theorem State.memWrite_cmd0 (s : State) (addr : Nat) (vs : List U256) : (s.memWrite addr vs).cmd0 = s.cmd0 := rfl
@[simp] theorem State.memWrite_cmd1 (s : State) (addr : Nat) (vs : List U256) : (s.memWrite addr vs).cmd1 = s.cmd1 := rfl
@[simp] theorem State.memWrite_cmd2 (s : State) (addr : Nat) (vs : List U256) : (s.memWrite addr vs).cmd2 = s.cmd2 := rfl
@[simp] theorem State.memWrite_current (s : State) (addr : Nat) (vs : List U256) : (s.memWrite addr vs).current = s.current := rfl
@[simp] theorem State.memWrite_host (s : State) (addr : Nat) (vs : List U256) : (s.memWrite addr vs).host = s.host := rfl
@[simp] theorem State.memWrite_rdata (s : State) (addr : Nat) (vs : List U256) : (s.memWrite addr vs).rdata = s.rdata := rfl
@[simp] theorem State.memWrite_draws (s : State) (addr : Nat) (vs : List U256) : (s.memWrite addr vs).draws = s.draws := rfl
@[simp] theorem State.memWrite_epoch (s : State) (addr : Nat) (vs : List U256) : (s.memWrite addr vs).epoch = s.epoch := rfl

@[simp] theorem State.writeLimb_cfg (s : State) (e i : Nat) (v : Word) : (s.writeLimb e i v).cfg = s.cfg := rfl
@[simp] theorem State.writeLimb_f (s : State) (e i : Nat) (v : Word) : (s.writeLimb e i v).f = s.f := rfl
@[simp] theorem State.writeLimb_w (s : State) (e i : Nat) (v : Word) : (s.writeLimb e i v).w = s.w := rfl
@[simp] theorem State.writeLimb_flagC (s : State) (e i : Nat) (v : Word) : (s.writeLimb e i v).flagC = s.flagC := rfl
@[simp] theorem State.writeLimb_flagS (s : State) (e i : Nat) (v : Word) : (s.writeLimb e i v).flagS = s.flagS := rfl
@[simp] theorem State.writeLimb_flagZ (s : State) (e i : Nat) (v : Word) : (s.writeLimb e i v).flagZ = s.flagZ := rfl
@[simp] theorem State.writeLimb_cseq (s : State) (e i : Nat) (v : Word) : (s.writeLimb e i v).cseq = s.cseq := rfl
@[simp] theorem State.writeLimb_busy (s : State) (e i : Nat) (v : Word) : (s.writeLimb e i v).busy = s.busy := rfl
@[simp] theorem State.writeLimb_fault (s : State) (e i : Nat) (v : Word) : (s.writeLimb e i v).fault = s.fault := rfl
@[simp] theorem State.writeLimb_rinit (s : State) (e i : Nat) (v : Word) : (s.writeLimb e i v).rinit = s.rinit := rfl
@[simp] theorem State.writeLimb_frec (s : State) (e i : Nat) (v : Word) : (s.writeLimb e i v).frec = s.frec := rfl
@[simp] theorem State.writeLimb_res0 (s : State) (e i : Nat) (v : Word) : (s.writeLimb e i v).res0 = s.res0 := rfl
@[simp] theorem State.writeLimb_res1 (s : State) (e i : Nat) (v : Word) : (s.writeLimb e i v).res1 = s.res1 := rfl
@[simp] theorem State.writeLimb_res2 (s : State) (e i : Nat) (v : Word) : (s.writeLimb e i v).res2 = s.res2 := rfl
@[simp] theorem State.writeLimb_vm (s : State) (e i : Nat) (v : Word) : (s.writeLimb e i v).vm = Memory.store s.vm (32 * e + 4 * i) (limbBytes v) := rfl
@[simp] theorem State.writeLimb_jt (s : State) (e i : Nat) (v : Word) : (s.writeLimb e i v).jt = s.jt := rfl
@[simp] theorem State.writeLimb_pd (s : State) (e i : Nat) (v : Word) : (s.writeLimb e i v).pd = s.pd := rfl
@[simp] theorem State.writeLimb_cmd0 (s : State) (e i : Nat) (v : Word) : (s.writeLimb e i v).cmd0 = s.cmd0 := rfl
@[simp] theorem State.writeLimb_cmd1 (s : State) (e i : Nat) (v : Word) : (s.writeLimb e i v).cmd1 = s.cmd1 := rfl
@[simp] theorem State.writeLimb_cmd2 (s : State) (e i : Nat) (v : Word) : (s.writeLimb e i v).cmd2 = s.cmd2 := rfl
@[simp] theorem State.writeLimb_current (s : State) (e i : Nat) (v : Word) : (s.writeLimb e i v).current = s.current := rfl
@[simp] theorem State.writeLimb_host (s : State) (e i : Nat) (v : Word) : (s.writeLimb e i v).host = s.host := rfl
@[simp] theorem State.writeLimb_rdata (s : State) (e i : Nat) (v : Word) : (s.writeLimb e i v).rdata = s.rdata := rfl
@[simp] theorem State.writeLimb_draws (s : State) (e i : Nat) (v : Word) : (s.writeLimb e i v).draws = s.draws := rfl
@[simp] theorem State.writeLimb_epoch (s : State) (e i : Nat) (v : Word) : (s.writeLimb e i v).epoch = s.epoch := rfl

@[simp] theorem State.drawn_cfg (s : State) (k : Nat) : (s.drawn k).cfg = s.cfg := rfl
@[simp] theorem State.drawn_f (s : State) (k : Nat) : (s.drawn k).f = s.f := rfl
@[simp] theorem State.drawn_w (s : State) (k : Nat) : (s.drawn k).w = s.w := rfl
@[simp] theorem State.drawn_flagC (s : State) (k : Nat) : (s.drawn k).flagC = s.flagC := rfl
@[simp] theorem State.drawn_flagS (s : State) (k : Nat) : (s.drawn k).flagS = s.flagS := rfl
@[simp] theorem State.drawn_flagZ (s : State) (k : Nat) : (s.drawn k).flagZ = s.flagZ := rfl
@[simp] theorem State.drawn_cseq (s : State) (k : Nat) : (s.drawn k).cseq = s.cseq := rfl
@[simp] theorem State.drawn_busy (s : State) (k : Nat) : (s.drawn k).busy = s.busy := rfl
@[simp] theorem State.drawn_fault (s : State) (k : Nat) : (s.drawn k).fault = s.fault := rfl
@[simp] theorem State.drawn_rinit (s : State) (k : Nat) : (s.drawn k).rinit = s.rinit := rfl
@[simp] theorem State.drawn_frec (s : State) (k : Nat) : (s.drawn k).frec = s.frec := rfl
@[simp] theorem State.drawn_res0 (s : State) (k : Nat) : (s.drawn k).res0 = s.res0 := rfl
@[simp] theorem State.drawn_res1 (s : State) (k : Nat) : (s.drawn k).res1 = s.res1 := rfl
@[simp] theorem State.drawn_res2 (s : State) (k : Nat) : (s.drawn k).res2 = s.res2 := rfl
@[simp] theorem State.drawn_vm (s : State) (k : Nat) : (s.drawn k).vm = s.vm := rfl
@[simp] theorem State.drawn_jt (s : State) (k : Nat) : (s.drawn k).jt = s.jt := rfl
@[simp] theorem State.drawn_pd (s : State) (k : Nat) : (s.drawn k).pd = s.pd := rfl
@[simp] theorem State.drawn_cmd0 (s : State) (k : Nat) : (s.drawn k).cmd0 = s.cmd0 := rfl
@[simp] theorem State.drawn_cmd1 (s : State) (k : Nat) : (s.drawn k).cmd1 = s.cmd1 := rfl
@[simp] theorem State.drawn_cmd2 (s : State) (k : Nat) : (s.drawn k).cmd2 = s.cmd2 := rfl
@[simp] theorem State.drawn_current (s : State) (k : Nat) : (s.drawn k).current = s.current := rfl
@[simp] theorem State.drawn_host (s : State) (k : Nat) : (s.drawn k).host = s.host := rfl
@[simp] theorem State.drawn_rdata (s : State) (k : Nat) : (s.drawn k).rdata = s.rdata := rfl
@[simp] theorem State.drawn_draws (s : State) (k : Nat) : (s.drawn k).draws = s.draws + k := rfl
@[simp] theorem State.drawn_epoch (s : State) (k : Nat) : (s.drawn k).epoch = s.epoch := rfl

@[simp] theorem State.withJobWork_cfg (s : State) (w : JobWork) : (s.withJobWork w).cfg = s.cfg := rfl
@[simp] theorem State.withJobWork_f (s : State) (w : JobWork) : (s.withJobWork w).f = s.f := rfl
@[simp] theorem State.withJobWork_w (s : State) (w : JobWork) : (s.withJobWork w).w = s.w := rfl
@[simp] theorem State.withJobWork_flagC (s : State) (w : JobWork) : (s.withJobWork w).flagC = s.flagC := rfl
@[simp] theorem State.withJobWork_flagS (s : State) (w : JobWork) : (s.withJobWork w).flagS = s.flagS := rfl
@[simp] theorem State.withJobWork_flagZ (s : State) (w : JobWork) : (s.withJobWork w).flagZ = s.flagZ := rfl
@[simp] theorem State.withJobWork_cseq (s : State) (w : JobWork) : (s.withJobWork w).cseq = s.cseq := rfl
@[simp] theorem State.withJobWork_busy (s : State) (w : JobWork) : (s.withJobWork w).busy = s.busy := rfl
@[simp] theorem State.withJobWork_fault (s : State) (w : JobWork) : (s.withJobWork w).fault = s.fault := rfl
@[simp] theorem State.withJobWork_rinit (s : State) (w : JobWork) : (s.withJobWork w).rinit = w.rinit := rfl
@[simp] theorem State.withJobWork_frec (s : State) (w : JobWork) : (s.withJobWork w).frec = s.frec := rfl
@[simp] theorem State.withJobWork_res0 (s : State) (w : JobWork) : (s.withJobWork w).res0 = s.res0 := rfl
@[simp] theorem State.withJobWork_res1 (s : State) (w : JobWork) : (s.withJobWork w).res1 = s.res1 := rfl
@[simp] theorem State.withJobWork_res2 (s : State) (w : JobWork) : (s.withJobWork w).res2 = s.res2 := rfl
@[simp] theorem State.withJobWork_vm (s : State) (w : JobWork) : (s.withJobWork w).vm = s.vm := rfl
@[simp] theorem State.withJobWork_jt (s : State) (w : JobWork) : (s.withJobWork w).jt = w.jt := rfl
@[simp] theorem State.withJobWork_pd (s : State) (w : JobWork) : (s.withJobWork w).pd = s.pd := rfl
@[simp] theorem State.withJobWork_cmd0 (s : State) (w : JobWork) : (s.withJobWork w).cmd0 = s.cmd0 := rfl
@[simp] theorem State.withJobWork_cmd1 (s : State) (w : JobWork) : (s.withJobWork w).cmd1 = s.cmd1 := rfl
@[simp] theorem State.withJobWork_cmd2 (s : State) (w : JobWork) : (s.withJobWork w).cmd2 = s.cmd2 := rfl
@[simp] theorem State.withJobWork_current (s : State) (w : JobWork) : (s.withJobWork w).current = s.current := rfl
@[simp] theorem State.withJobWork_host (s : State) (w : JobWork) : (s.withJobWork w).host = s.host := rfl
@[simp] theorem State.withJobWork_rdata (s : State) (w : JobWork) : (s.withJobWork w).rdata = s.rdata := rfl
@[simp] theorem State.withJobWork_draws (s : State) (w : JobWork) : (s.withJobWork w).draws = w.draws := rfl
@[simp] theorem State.withJobWork_epoch (s : State) (w : JobWork) : (s.withJobWork w).epoch = s.epoch := rfl

@[simp] theorem complete_cfg (s : State) : (complete s).cfg = s.cfg := rfl
@[simp] theorem complete_f (s : State) : (complete s).f = s.f := rfl
@[simp] theorem complete_w (s : State) : (complete s).w = s.w := rfl
@[simp] theorem complete_flagC (s : State) : (complete s).flagC = s.flagC := rfl
@[simp] theorem complete_flagS (s : State) : (complete s).flagS = s.flagS := rfl
@[simp] theorem complete_flagZ (s : State) : (complete s).flagZ = s.flagZ := rfl
@[simp] theorem complete_cseq (s : State) : (complete s).cseq = s.cseq + 1 := rfl
@[simp] theorem complete_busy (s : State) : (complete s).busy = false := rfl
@[simp] theorem complete_fault (s : State) : (complete s).fault = s.fault := rfl
@[simp] theorem complete_rinit (s : State) : (complete s).rinit = s.rinit := rfl
@[simp] theorem complete_frec (s : State) : (complete s).frec = s.frec := rfl
@[simp] theorem complete_res0 (s : State) : (complete s).res0 = s.res0 := rfl
@[simp] theorem complete_res1 (s : State) : (complete s).res1 = s.res1 := rfl
@[simp] theorem complete_res2 (s : State) : (complete s).res2 = s.res2 := rfl
@[simp] theorem complete_vm (s : State) : (complete s).vm = s.vm := rfl
@[simp] theorem complete_jt (s : State) : (complete s).jt = s.jt := rfl
@[simp] theorem complete_pd (s : State) : (complete s).pd = s.pd := rfl
@[simp] theorem complete_cmd0 (s : State) : (complete s).cmd0 = s.cmd0 := rfl
@[simp] theorem complete_cmd1 (s : State) : (complete s).cmd1 = s.cmd1 := rfl
@[simp] theorem complete_cmd2 (s : State) : (complete s).cmd2 = s.cmd2 := rfl
@[simp] theorem complete_current (s : State) : (complete s).current = s.current := rfl
@[simp] theorem complete_host (s : State) : (complete s).host = s.host := rfl
@[simp] theorem complete_rdata (s : State) : (complete s).rdata = s.rdata := rfl
@[simp] theorem complete_draws (s : State) : (complete s).draws = s.draws := rfl
@[simp] theorem complete_epoch (s : State) : (complete s).epoch = s.epoch := rfl

@[simp] theorem raise_cfg (t : Trap) (s : State) : (raise t s).cfg = s.cfg := rfl
@[simp] theorem raise_f (t : Trap) (s : State) : (raise t s).f = s.f := rfl
@[simp] theorem raise_w (t : Trap) (s : State) : (raise t s).w = s.w := rfl
@[simp] theorem raise_flagC (t : Trap) (s : State) : (raise t s).flagC = s.flagC := rfl
@[simp] theorem raise_flagS (t : Trap) (s : State) : (raise t s).flagS = s.flagS := rfl
@[simp] theorem raise_flagZ (t : Trap) (s : State) : (raise t s).flagZ = s.flagZ := rfl
@[simp] theorem raise_cseq (t : Trap) (s : State) : (raise t s).cseq = s.cseq := rfl
@[simp] theorem raise_busy (t : Trap) (s : State) : (raise t s).busy = false := rfl
@[simp] theorem raise_fault (t : Trap) (s : State) : (raise t s).fault = true := rfl
@[simp] theorem raise_rinit (t : Trap) (s : State) : (raise t s).rinit = s.rinit := rfl
@[simp] theorem raise_res0 (t : Trap) (s : State) : (raise t s).res0 = s.res0 := rfl
@[simp] theorem raise_res1 (t : Trap) (s : State) : (raise t s).res1 = s.res1 := rfl
@[simp] theorem raise_res2 (t : Trap) (s : State) : (raise t s).res2 = s.res2 := rfl
@[simp] theorem raise_vm (t : Trap) (s : State) : (raise t s).vm = s.vm := rfl
@[simp] theorem raise_jt (t : Trap) (s : State) : (raise t s).jt = s.jt := rfl
@[simp] theorem raise_pd (t : Trap) (s : State) : (raise t s).pd = s.pd := rfl
@[simp] theorem raise_cmd0 (t : Trap) (s : State) : (raise t s).cmd0 = s.cmd0 := rfl
@[simp] theorem raise_cmd1 (t : Trap) (s : State) : (raise t s).cmd1 = s.cmd1 := rfl
@[simp] theorem raise_cmd2 (t : Trap) (s : State) : (raise t s).cmd2 = s.cmd2 := rfl
@[simp] theorem raise_current (t : Trap) (s : State) : (raise t s).current = s.current := rfl
@[simp] theorem raise_host (t : Trap) (s : State) : (raise t s).host = s.host := rfl
@[simp] theorem raise_rdata (t : Trap) (s : State) : (raise t s).rdata = s.rdata := rfl
@[simp] theorem raise_draws (t : Trap) (s : State) : (raise t s).draws = s.draws := rfl
@[simp] theorem raise_epoch (t : Trap) (s : State) : (raise t s).epoch = s.epoch := rfl
@[simp] theorem raise_frec_cause (t : Trap) (s : State) : (raise t s).frec.cause = t.cause.code := rfl
@[simp] theorem raise_frec_info0 (t : Trap) (s : State) : (raise t s).frec.info0 = t.info0 := rfl
@[simp] theorem raise_frec_info1 (t : Trap) (s : State) : (raise t s).frec.info1 = t.info1 := rfl
@[simp] theorem raise_frec_info2 (t : Trap) (s : State) : (raise t s).frec.info2 = t.info2 := rfl
@[simp] theorem raise_frec_cmd0 (t : Trap) (s : State) : (raise t s).frec.cmd0 = s.current.extractLsb' 0 32 := rfl
@[simp] theorem raise_frec_cmd1 (t : Trap) (s : State) : (raise t s).frec.cmd1 = s.current.extractLsb' 32 32 := rfl
@[simp] theorem raise_frec_cmd2 (t : Trap) (s : State) : (raise t s).frec.cmd2 = s.current.extractLsb' 64 32 := rfl
@[simp] theorem raise_frec_cmd3 (t : Trap) (s : State) : (raise t s).frec.cmd3 = s.current.extractLsb' 96 32 := rfl

end Sys2Proof.Machine
end

