-- ==== Sys2Proof/Laws/Ops.lean ====
section
/-! SUPPORT. What the shared operations can do, once each: completion and faults, register and table access, the vector
memory. Proofs cite these lemmas and unfold no operation. -/

namespace Sys2Proof.Laws

open Sys2Proof.Machine

/-! Completion and faults -/

@[simp] theorem settle_ok (s t : State) : settle s (.ok t) = .next (complete t) := rfl

@[simp] theorem settle_error (s : State) (t : Trap) : settle s (.error t) = .next (raise t s) := rfl

/-- A command's answer is its completed body or its fault. -/
theorem settle_cases {s t : State} {r : Except Trap State} (h : settle s r = .next t) :
    (∃ u, r = .ok u ∧ t = complete u) ∨ ∃ tr, r = .error tr ∧ t = raise tr s := by
  cases r with
  | ok u => exact .inl ⟨u, rfl, by simpa [eq_comm] using h⟩
  | error tr => exact .inr ⟨tr, rfl, by simpa [eq_comm] using h⟩

/-- Every command answers a next state. -/
theorem settle_next (s : State) (r : Except Trap State) : ∃ t, settle s r = .next t := by
  cases r <;> exact ⟨_, rfl⟩

@[simp] theorem guarded_none (u : State) : guarded none u = .ok u := rfl

@[simp] theorem guarded_some (t : Trap) (u : State) : guarded (some t) u = .error t := rfl

/-- A guarded body answers its effect when no check fails, and only then. -/
theorem guarded_eq_ok {t : Option Trap} {e u : State} : guarded t e = .ok u ↔ t = none ∧ u = e := by
  cases t <;> simp [guarded, eq_comm]

/-- A guarded body faults with the failing check's trap, and only then. -/
theorem guarded_eq_error {t : Option Trap} {e : State} {tr : Trap} : guarded t e = .error tr ↔ t = some tr := by
  cases t <;> simp [guarded]

/-- A body on a descriptor runs on the valid descriptor, or faults. -/
theorem onPoly_cases (s : State) (i : PolyIdx) (body : Poly → Except Trap State) :
    (∃ p, s.getPoly i = some p ∧ onPoly s i body = body p) ∨
      (s.getPoly i = none ∧ onPoly s i body = .error (trap .polyState i.toNat 2 0)) := by
  unfold onPoly
  cases h : s.getPoly i with
  | none => simp
  | some p => simp

/-! Registers and tables -/

theorem getF_setF_same (s : State) (r : RegIdx) (v : U256) (h : isReg r = true) : (s.setF r v).getF r = v := by
  have h' : r.toNat < 16 := by simpa [isReg] using h
  simp [State.getF, State.setF, h']

theorem getF_setF_ne (s : State) (r q : RegIdx) (v : U256) (h : q ≠ r) : (s.setF r v).getF q = s.getF q := by
  have : r.toNat ≠ q.toNat := fun e => h (BitVec.eq_of_toNat_eq e.symm)
  simp [State.getF, State.setF, this]

theorem getJob_setJob_same (s : State) (j : JobIdx) (e : Option JobEntry) (h : isJob j = true) :
    (s.setJob j e).getJob j = e := by
  have h' : j.toNat < 64 := by simpa [isJob] using h
  simp [State.getJob, State.setJob, h']

theorem getJob_setJob_ne (s : State) (j k : JobIdx) (e : Option JobEntry) (h : k ≠ j) :
    (s.setJob j e).getJob k = s.getJob k := by
  have : j.toNat ≠ k.toNat := fun e => h (BitVec.eq_of_toNat_eq e.symm)
  simp [State.getJob, State.setJob, this]

theorem getPoly_setPoly_same (s : State) (p : PolyIdx) (e : Option Poly) (h : isPoly p = true) :
    (s.setPoly p e).getPoly p = e := by
  have h' : p.toNat < 8 := by simpa [isPoly] using h
  simp [State.getPoly, State.setPoly, h']

theorem getPoly_setPoly_ne (s : State) (p q : PolyIdx) (e : Option Poly) (h : q ≠ p) :
    (s.setPoly p e).getPoly q = s.getPoly q := by
  have : p.toNat ≠ q.toNat := fun e => h (BitVec.eq_of_toNat_eq e.symm)
  simp [State.getPoly, State.setPoly, this]

/-! The vector memory -/

/-- The canonical form says that addresses strictly rise. -/
theorem wf_iff (m : Memory) : Memory.wf m = true ↔ m.Pairwise fun a b => a.1 < b.1 := by
  induction m with
  | nil => simp [Memory.wf]
  | cons a m ih =>
    cases m with
    | nil => simp [Memory.wf]
    | cons b m =>
      simp only [Memory.wf, Bool.and_eq_true, decide_eq_true_eq, ih, List.pairwise_cons]
      constructor
      · rintro ⟨hab, hb, hm⟩
        refine ⟨?_, hb, hm⟩
        intro c hc
        rcases List.mem_cons.1 hc with rfl | hc
        · exact hab
        · exact hab.trans (hb c hc)
      · rintro ⟨ha, hb, hm⟩
        exact ⟨ha b (by simp), hb, hm⟩

theorem mem_cellsFrom (a : Nat) (bs : List Byte) (c : Host.Cell) (h : c ∈ cellsFrom a bs) :
    a ≤ c.1 ∧ c.1 < a + bs.length := by
  induction bs generalizing a with
  | nil => simp [cellsFrom] at h
  | cons b bs ih =>
    rcases List.mem_cons.1 (by simpa [cellsFrom] using h) with rfl | h
    · simp
    · have := ih (a + 1) h
      simp only [List.length_cons]
      omega

theorem cellsFrom_pairwise (a : Nat) (bs : List Byte) : (cellsFrom a bs).Pairwise fun x y => x.1 < y.1 := by
  induction bs generalizing a with
  | nil => simp [cellsFrom]
  | cons b bs ih =>
    simp only [cellsFrom, List.pairwise_cons]
    exact ⟨fun c hc => by have := (mem_cellsFrom _ _ _ hc).1; exact this, ih _⟩

/-- A store keeps the canonical form. -/
theorem store_wf (m : Memory) (a : Nat) (bs : List Byte) (h : Memory.wf m = true) :
    Memory.wf (Memory.store m a bs) = true := by
  rw [wf_iff] at h ⊢
  unfold Memory.store
  rw [List.pairwise_append, List.pairwise_append]
  refine ⟨⟨h.filter _, cellsFrom_pairwise a bs, ?_⟩, h.filter _, ?_⟩
  · intro x hx y hy
    have h1 := (List.mem_filter.1 hx).2
    have h2 := mem_cellsFrom _ _ _ hy
    simp only [decide_eq_true_eq] at h1
    omega
  · intro x hx y hy
    have h2 := (List.mem_filter.1 hy).2
    simp only [decide_eq_true_eq] at h2
    rcases List.mem_append.1 hx with hx | hx
    · have h1 := (List.mem_filter.1 hx).2
      simp only [decide_eq_true_eq] at h1
      omega
    · have h1 := mem_cellsFrom _ _ _ hx
      omega

/-- A store of bytes below `limit` leaves every listed address below `limit`. -/
theorem store_bound (m : Memory) (a : Nat) (bs : List Byte) (limit : Nat) (h : ∀ c ∈ m, c.1 < limit)
    (hb : a + bs.length ≤ limit) : ∀ c ∈ Memory.store m a bs, c.1 < limit := by
  intro c hc
  unfold Memory.store at hc
  rcases List.mem_append.1 hc with hc | hc
  · rcases List.mem_append.1 hc with hc | hc
    · exact h c (List.mem_filter.1 hc).1
    · have := mem_cellsFrom _ _ _ hc
      omega
  · exact h c (List.mem_filter.1 hc).1

theorem find_cellsFrom (a x : Nat) (bs : List Byte) :
    ((cellsFrom a bs).find? fun c => c.1 == x).map (·.2) = if a ≤ x then bs[x - a]? else none := by
  induction bs generalizing a with
  | nil => simp [cellsFrom]
  | cons b bs ih =>
    by_cases hx : a = x
    · simp [cellsFrom, hx]
    · have hne : (a == x) = false := by simpa using hx
      simp only [cellsFrom, List.find?_cons, hne, ih]
      by_cases hle : a ≤ x
      · have : x - a = (x - (a + 1)) + 1 := by omega
        simp [hle, this, show a + 1 ≤ x by omega]
      · simp [hle, show ¬ a + 1 ≤ x by omega]

theorem byte_filter (m : Memory) (q : Nat → Bool) (x : Nat) :
    Memory.byte? (m.filter fun c => q c.1) x = if q x then Memory.byte? m x else none := by
  induction m with
  | nil => simp [Memory.byte?]
  | cons c m ih =>
    unfold Memory.byte? at ih ⊢
    by_cases hc : c.1 = x
    · subst hc
      by_cases hq : q c.1 = true
      · simp [hq]
      · simp only [hq, List.filter_cons] at ih ⊢
        simpa [hq] using ih
    · have hne : (c.1 == x) = false := by simpa using hc
      by_cases hq : q c.1 = true
      · simp only [List.filter_cons, hq, if_true, List.find?_cons, hne]
        exact ih
      · simp only [List.filter_cons, hq, List.find?_cons, hne]
        simpa using ih

theorem byte_append (m k : Memory) (x : Nat) :
    Memory.byte? (m ++ k) x = (Memory.byte? m x).or (Memory.byte? k x) := by
  simp only [Memory.byte?, List.find?_append]
  cases m.find? (fun c => c.1 == x) <;> simp

/-- Reading after a store: the stored byte inside the range, the byte that was there outside it. -/
theorem byte_store (m : Memory) (a x : Nat) (bs : List Byte) :
    Memory.byte? (Memory.store m a bs) x =
      if a ≤ x ∧ x < a + bs.length then bs[x - a]? else Memory.byte? m x := by
  unfold Memory.store
  rw [byte_append, byte_append, byte_filter m (fun y => decide (y < a)), byte_filter m (fun y => decide (a + bs.length ≤ y))]
  have hc : Memory.byte? (cellsFrom a bs) x = if a ≤ x then bs[x - a]? else none := find_cellsFrom a x bs
  rw [hc]
  by_cases h1 : x < a
  · simp [h1, show ¬ a ≤ x by omega, show ¬ (a + bs.length ≤ x) by omega]
  · by_cases h2 : x < a + bs.length
    · have : x - a < bs.length := by omega
      simp [show a ≤ x by omega, h2, List.getElem?_eq_getElem this, show ¬ x < a from h1]
    · simp [h1, show a ≤ x by omega, h2, show a + bs.length ≤ x by omega,
        List.getElem?_eq_none (show bs.length ≤ x - a by omega)]

theorem byte_window (m : Memory) (lo hi x : Nat) :
    Memory.byte? (Memory.window m lo hi) x = if lo ≤ x ∧ x < hi then Memory.byte? m x else none := by
  have := byte_filter m (fun y => decide (lo ≤ y) && decide (y < hi)) x
  unfold Memory.window
  rw [this]
  by_cases h : lo ≤ x ∧ x < hi
  · simp [h]
  · simp only [h, if_false]
    rw [if_neg (by simpa using h)]

/-- A multi-byte read is made of the bytes `vmByte` reads. -/
theorem vmNat_eq (s : State) (a count : Nat) :
    s.vmNat a count = natOfBytes ((List.range count).map fun j => s.vmByte (a + j)) := by
  unfold State.vmNat
  congr 1
  apply List.map_congr_left
  intro j hj
  have hj := List.mem_range.1 hj
  simp [State.vmByteIn, State.vmByte, byte_window, show a + j < a + count by omega]

theorem bytesOf_length (v : U256) : (bytesOf v).length = 32 := by simp [bytesOf]

theorem limbBytes_length (v : Word) : (limbBytes v).length = 4 := by simp [limbBytes]

theorem flatMap_bytes_length (vs : List U256) : (vs.flatMap bytesOf).length = 32 * vs.length := by
  induction vs with
  | nil => rfl
  | cons v vs ih => simp [ih, bytesOf_length]; omega

/-- A vector write leaves every byte outside its slots as it was. -/
theorem memWrite_byte_outside (s : State) (addr : Nat) (vs : List U256) (x : Nat)
    (h : x < 32 * addr ∨ 32 * (addr + vs.length) ≤ x) : (s.memWrite addr vs).vmByte x = s.vmByte x := by
  simp only [State.vmByte, State.vmByteIn, State.memWrite, byte_store, flatMap_bytes_length]
  rw [if_neg (by omega)]

/-- A limb write leaves every byte outside its limb as it was. -/
theorem writeLimb_byte_outside (s : State) (e i : Nat) (v : Word) (x : Nat)
    (h : x < 32 * e + 4 * i ∨ 32 * e + 4 * i + 4 ≤ x) : (s.writeLimb e i v).vmByte x = s.vmByte x := by
  simp only [State.vmByte, State.vmByteIn, State.writeLimb, byte_store, limbBytes_length]
  rw [if_neg (by omega)]

theorem flatMap_bytes_get (vs : List U256) (i j : Nat) (hj : j < 32) :
    (vs.flatMap bytesOf)[32 * i + j]? = vs[i]?.map fun v => v.extractLsb' (8 * j) 8 := by
  induction vs generalizing i with
  | nil => simp
  | cons v vs ih =>
    rw [List.flatMap_cons]
    cases i with
    | zero =>
      rw [List.getElem?_append_left (by rw [bytesOf_length]; omega)]
      simp [bytesOf, hj]
    | succ i =>
      rw [List.getElem?_append_right (by rw [bytesOf_length]; omega), bytesOf_length,
        show 32 * (i + 1) + j - 32 = 32 * i + j by omega, ih]
      simp

/-- A vector write puts byte `j` of element `i` at byte `j` of slot `addr + i`. -/
theorem memWrite_byte_inside (s : State) (addr : Nat) (vs : List U256) (i j : Nat) (hi : i < vs.length) (hj : j < 32) :
    (s.memWrite addr vs).vmByte (32 * (addr + i) + j) = vs[i].extractLsb' (8 * j) 8 := by
  simp only [State.vmByte, State.vmByteIn, State.memWrite, byte_store, flatMap_bytes_length]
  rw [if_pos (by omega), show 32 * (addr + i) + j - 32 * addr = 32 * i + j by omega, flatMap_bytes_get _ _ _ hj]
  simp [List.getElem?_eq_getElem hi]

/-- The bytes of a value, taken from bit `8k` on, make the value shifted down. -/
theorem natOfBytes_extract (v k : Nat) :
    natOfBytes ((List.range k).map fun j => BitVec.ofNat 8 (v / 2 ^ (8 * j))) = v % 2 ^ (8 * k) := by
  induction k generalizing v with
  | zero => simp [natOfBytes, Nat.mod_one]
  | succ k ih =>
    rw [List.range_succ_eq_map, List.map_cons, List.map_map]
    have : ((fun j => BitVec.ofNat 8 (v / 2 ^ (8 * j))) ∘ Nat.succ) =
        fun j => BitVec.ofNat 8 (v / 256 / 2 ^ (8 * j)) := by
      funext j
      simp only [Function.comp, Nat.div_div_eq_div_mul]
      rw [show 8 * Nat.succ j = 8 + 8 * j by omega, pow_add]
      norm_num
    rw [this, natOfBytes, ih]
    simp only [Nat.mul_zero, Nat.pow_zero, Nat.div_one, BitVec.toNat_ofNat]
    rw [show 8 * (k + 1) = 8 + 8 * k by omega, pow_add, Nat.mod_mul]
    norm_num

theorem extract_ofNat {w : Nat} (v : BitVec w) (j : Nat) : v.extractLsb' (8 * j) 8 = BitVec.ofNat 8 (v.toNat / 2 ^ (8 * j)) := by
  apply BitVec.eq_of_toNat_eq
  simp [Nat.shiftRight_eq_div_pow]

/-- A slot just written reads back the element, whatever it was (20_memory.md R71). -/
theorem memWrite_slot_inside (s : State) (addr : Nat) (vs : List U256) (i : Nat) (hi : i < vs.length) :
    (s.memWrite addr vs).vmSlot (addr + i) = vs[i] := by
  unfold State.vmSlot
  rw [vmNat_eq]
  have : (List.range 32).map (fun j => (s.memWrite addr vs).vmByte (32 * (addr + i) + j)) =
      (List.range 32).map fun j => BitVec.ofNat 8 (vs[i].toNat / 2 ^ (8 * j)) := by
    apply List.map_congr_left
    intro j hj
    rw [memWrite_byte_inside s addr vs i j hi (List.mem_range.1 hj), extract_ofNat]
  rw [this, natOfBytes_extract]
  apply BitVec.eq_of_toNat_eq
  simpa using vs[i].isLt

/-- A slot outside a vector write reads as before. -/
theorem memWrite_slot_outside (s : State) (addr : Nat) (vs : List U256) (e : Nat) (h : e < addr ∨ addr + vs.length ≤ e) :
    (s.memWrite addr vs).vmSlot e = s.vmSlot e := by
  unfold State.vmSlot
  rw [vmNat_eq, vmNat_eq]
  congr 2
  apply List.map_congr_left
  intro j hj
  have := List.mem_range.1 hj
  exact memWrite_byte_outside s addr vs _ (by omega)

/-- Every memory operation of a command keeps the canonical form. -/
theorem memWrite_wf (s : State) (addr : Nat) (vs : List U256) (h : Memory.wf s.vm = true) :
    Memory.wf (s.memWrite addr vs).vm = true := store_wf _ _ _ h

/-- The host's limb write keeps the canonical form. -/
theorem writeLimb_wf (s : State) (e i : Nat) (v : Word) (h : Memory.wf s.vm = true) :
    Memory.wf (s.writeLimb e i v).vm = true := store_wf _ _ _ h

/-- A vector write of computed or open elements keeps the canonical form. -/
theorem putVec_wf (s : State) (addr : Nat) (reduced : Bool) (v : List U256) (h : Memory.wf s.vm = true) :
    Memory.wf (s.putVec addr reduced v).vm = true := store_wf _ _ _ h

/-- The memory after reset is in canonical form. -/
theorem reset_memory_wf : Memory.wf State.reset.vm = true := rfl

/-- The memory after any reset is in canonical form. -/
theorem resetCore_memory_wf (s : State) : Memory.wf (resetCore s).vm = true := rfl

/-! Free values -/

@[simp] theorem openVec_true (v : List U256) (n : Nat) : openVec true v n = (v, n) := rfl

@[simp] theorem openVec_length (reduced : Bool) (v : List U256) (n : Nat) : (openVec reduced v n).1.length = v.length := by
  cases reduced <;> simp [openVec]

@[simp] theorem putElem_true (s : State) (r : RegIdx) (v : U256) : s.putElem r true v = s.setF r v := rfl

@[simp] theorem putVec_true (s : State) (addr : Nat) (v : List U256) : s.putVec addr true v = s.memWrite addr v := rfl

theorem memRead_length (s : State) (addr n : Nat) : (s.memRead addr n).length = n := by simp [State.memRead]

end Sys2Proof.Laws
end

