-- ==== Sys2Proof/Laws/PerInstr.lean ====
section
/-! SUPPORT. Per-instruction facts about the syntax: the opcode map reads a command's fields back as that command, with its
format (30_encoding.md R109). -/

namespace Sys2Proof.Laws.FieldsRoundTrip

/-- The opcode map answers the command its fields were made from, and its format. -/
def Statement (i : Instr) : Prop := opcodeMap i.fields = some (i.format, i)

theorem nop : Statement (.nop) := rfl
theorem lde (fd : RegIdx) (addr : Word) : Statement (.lde fd addr) := rfl
theorem ste (fa : RegIdx) (addr : Word) : Statement (.ste fa addr) := rfl
theorem ldi (fd : RegIdx) (imm : Word) : Statement (.ldi fd imm) := rfl
theorem rdw (fd : RegIdx) (half : Byte) : Statement (.rdw fd half) := rfl
theorem uclr (fd : RegIdx) : Statement (.uclr fd) := rfl
theorem umov (fd fa : RegIdx) : Statement (.umov fd fa) := rfl
theorem uadd (fd fa fb : RegIdx) : Statement (.uadd fd fa fb) := rfl
theorem usub (fd fa fb : RegIdx) : Statement (.usub fd fa fb) := rfl
theorem uneg (fd fa : RegIdx) : Statement (.uneg fd fa) := rfl
theorem umul256 (fd fa fb : RegIdx) : Statement (.umul256 fd fa fb) := rfl
theorem umul512 (fa fb : RegIdx) : Statement (.umul512 fa fb) := rfl
theorem ueq (fa fb : RegIdx) : Statement (.ueq fa fb) := rfl
theorem monpro (fd fa fb : RegIdx) : Statement (.monpro fd fa fb) := rfl
theorem monadd (fd fa fb : RegIdx) : Statement (.monadd fd fa fb) := rfl
theorem monsub (fd fa fb : RegIdx) : Statement (.monsub fd fa fb) := rfl
theorem tomont (fd fa : RegIdx) : Statement (.tomont fd fa) := rfl
theorem frommont (fd fa : RegIdx) : Statement (.frommont fd fa) := rfl
theorem fzero (fd : RegIdx) : Statement (.fzero fd) := rfl
theorem fone (fd : RegIdx) : Statement (.fone fd) := rfl
theorem fsqr (fd fa : RegIdx) : Statement (.fsqr fd fa) := rfl
theorem fneg (fd fa : RegIdx) : Statement (.fneg fd fa) := rfl
theorem finv (fd fa : RegIdx) : Statement (.finv fd fa) := rfl
theorem frand (fd : RegIdx) : Statement (.frand fd) := rfl
theorem frands (fd : RegIdx) (x y : Word) : Statement (.frands fd x y) := rfl
theorem froot (fd : RegIdx) (x y : Word) : Statement (.froot fd x y) := rfl
theorem ffromcan (fd fa : RegIdx) : Statement (.ffromcan fd fa) := rfl
theorem ftocan (fd fa : RegIdx) : Statement (.ftocan fd fa) := rfl
theorem feq (fa fb : RegIdx) : Statement (.feq fa fb) := rfl
theorem fisz (fa : RegIdx) : Statement (.fisz fa) := rfl
theorem fftrec (src dst len : Word) : Statement (.fftrec src dst len) := rfl
theorem fftr2 (fw : RegIdx) (src dst len : Word) : Statement (.fftr2 fw src dst len) := rfl
theorem fft4 (logRows logCols : Byte) (src dst len : Word) : Statement (.fft4 logRows logCols src dst len) := rfl
theorem ifft (src dst len : Word) : Statement (.ifft src dst len) := rfl
theorem jnew (js : JobIdx) (src len jobId : Word) : Statement (.jnew js src len jobId) := rfl
theorem jfork (jd js : JobIdx) (target : Word) : Statement (.jfork jd js target) := rfl
theorem jfft (js : JobIdx) : Statement (.jfft js) := rfl
theorem jmerge (js jo : JobIdx) : Statement (.jmerge js jo) := rfl
theorem jfind (jobId : Word) : Statement (.jfind jobId) := rfl
theorem jrun (jobId : Word) : Statement (.jrun jobId) := rfl
theorem jst (js : JobIdx) (dst : Word) : Statement (.jst js dst) := rfl
theorem jfree (js : JobIdx) : Statement (.jfree js) := rfl
theorem jqry (js : JobIdx) : Statement (.jqry js) := rfl
theorem pnew (pd : PolyIdx) (src count : Word) : Statement (.pnew pd src count) := rfl
theorem pnewp (pd : PolyIdx) (src len : Word) : Statement (.pnewp pd src len) := rfl
theorem pext (pd : PolyIdx) (newDegree : Word) : Statement (.pext pd newDegree) := rfl
theorem padd (pd pa pb : PolyIdx) : Statement (.padd pd pa pb) := rfl
theorem pmul (pd pa pb : PolyIdx) : Statement (.pmul pd pa pb) := rfl
theorem peval (fd : RegIdx) (pa : PolyIdx) (fx : RegIdx) : Statement (.peval fd pa fx) := rfl
theorem pcoef (pd : PolyIdx) : Statement (.pcoef pd) := rfl
theorem ppoint (pd : PolyIdx) : Statement (.ppoint pd) := rfl
theorem pstc (pa : PolyIdx) (dst : Word) : Statement (.pstc pa dst) := rfl
theorem pstp (pa : PolyIdx) (dst : Word) : Statement (.pstp pa dst) := rfl
theorem pfree (pd : PolyIdx) : Statement (.pfree pd) := rfl
theorem pqry (pa : PolyIdx) : Statement (.pqry pa) := rfl

end Sys2Proof.Laws.FieldsRoundTrip
end

