-- ==== Sys2Proof/Laws/Reference.lean ====
section
/-! SUPPORT. The reference instance is well formed (00_scope.md R10): its modulus is proved prime by a tree of Lucas
certificates (93_implementation_defined.md G1 gives no proof), its constants and its root table by evaluation. -/

namespace Sys2Proof.Laws

open Sys2Proof.Machine

set_option Elab.async false

/-- A Lucas certificate: `a` has order `p - 1` modulo `p`, shown at the prime factors `qs` of `p - 1`. -/
theorem prime_of_certificate (p a : Nat) (qs : List Nat) (hp : 1 < p) (hq : ∀ q ∈ qs, Nat.Prime q)
    (hprod : qs.prod = p - 1) (h1 : powMod p (p.log2 + 1) a (p - 1) = 1)
    (h2 : ∀ q ∈ qs, powMod p (p.log2 + 1) a ((p - 1) / q) ≠ 1) : Nat.Prime p := by
  have hlt : p < 2 ^ (p.log2 + 1) := Nat.lt_log2_self
  have key : ∀ e, e ≤ p - 1 → (powMod p (p.log2 + 1) a e = 1 ↔ (a : ZMod p) ^ e = 1) := by
    intro e he
    rw [powMod_spec _ _ _ _ (by omega)]
    have : ((a ^ e : Nat) : ZMod p) = (1 : Nat) ↔ a ^ e % p = 1 % p := ZMod.natCast_eq_natCast_iff' _ _ _
    rw [Nat.mod_eq_of_lt hp] at this
    rw [← this]; push_cast; rfl
  refine lucas_primality p (a : ZMod p) ((key _ le_rfl).1 h1) ?_
  intro q hqp hdvd hpow
  have hmem : q ∈ qs := by
    rw [← hprod] at hdvd
    obtain ⟨r, hr, hd⟩ := (Nat.Prime.prime hqp).dvd_prod_iff.1 hdvd
    rwa [(Nat.prime_dvd_prime_iff_eq hqp (hq r hr)).1 hd]
  exact h2 q hmem ((key _ (Nat.div_le_self _ _)).2 hpow)

theorem prime_20963 : Nat.Prime 20963 := by
  refine prime_of_certificate _ 2 ([2, 47, 223]) (by decide +kernel) ?_ (by decide +kernel) (by decide +kernel) (by decide +kernel)
  intro q hq
  have h : q = 2 ∨ q = 47 ∨ q = 223 := by simpa [List.mem_replicate] using hq
  rcases h with rfl | rfl | rfl
  · norm_num
  · norm_num
  · norm_num

theorem prime_41927 : Nat.Prime 41927 := by
  refine prime_of_certificate _ 5 ([2, 20963]) (by decide +kernel) ?_ (by decide +kernel) (by decide +kernel) (by decide +kernel)
  intro q hq
  have h : q = 2 ∨ q = 20963 := by simpa [List.mem_replicate] using hq
  rcases h with rfl | rfl
  · norm_num
  · exact prime_20963

theorem prime_1593227 : Nat.Prime 1593227 := by
  refine prime_of_certificate _ 2 ([2, 19, 41927]) (by decide +kernel) ?_ (by decide +kernel) (by decide +kernel) (by decide +kernel)
  intro q hq
  have h : q = 2 ∨ q = 19 ∨ q = 41927 := by simpa [List.mem_replicate] using hq
  rcases h with rfl | rfl | rfl
  · norm_num
  · norm_num
  · exact prime_41927

theorem prime_1637 : Nat.Prime 1637 := by
  refine prime_of_certificate _ 2 ([2, 2, 409]) (by decide +kernel) ?_ (by decide +kernel) (by decide +kernel) (by decide +kernel)
  intro q hq
  have h : q = 2 ∨ q = 409 := by
    simp at hq; tauto
  rcases h with rfl | rfl
  · norm_num
  · norm_num

theorem prime_639533339 : Nat.Prime 639533339 := by
  refine prime_of_certificate _ 2 ([2, 229, 853, 1637]) (by decide +kernel) ?_ (by decide +kernel) (by decide +kernel) (by decide +kernel)
  intro q hq
  have h : q = 2 ∨ q = 229 ∨ q = 853 ∨ q = 1637 := by simpa [List.mem_replicate] using hq
  rcases h with rfl | rfl | rfl | rfl
  · norm_num
  · norm_num
  · norm_num
  · exact prime_1637

theorem prime_65865678001877903 : Nat.Prime 65865678001877903 := by
  refine prime_of_certificate _ 5 ([2, 83, 379, 1637, 639533339]) (by decide +kernel) ?_ (by decide +kernel) (by decide +kernel) (by decide +kernel)
  intro q hq
  have h : q = 2 ∨ q = 83 ∨ q = 379 ∨ q = 1637 ∨ q = 639533339 := by simpa [List.mem_replicate] using hq
  rcases h with rfl | rfl | rfl | rfl | rfl
  · norm_num
  · norm_num
  · norm_num
  · exact prime_1637
  · exact prime_639533339

theorem prime_13818364434197438864469338081 : Nat.Prime 13818364434197438864469338081 := by
  refine prime_of_certificate _ 3 ([2, 2, 2, 2, 2, 5, 823, 1593227, 65865678001877903]) (by decide +kernel) ?_ (by decide +kernel) (by decide +kernel) (by decide +kernel)
  intro q hq
  have h : q = 2 ∨ q = 5 ∨ q = 823 ∨ q = 1593227 ∨ q = 65865678001877903 := by
    simp at hq; tauto
  rcases h with rfl | rfl | rfl | rfl | rfl
  · norm_num
  · norm_num
  · norm_num
  · exact prime_1593227
  · exact prime_65865678001877903

theorem prime_237073 : Nat.Prime 237073 := by
  refine prime_of_certificate _ 15 ([2, 2, 2, 2, 3, 11, 449]) (by decide +kernel) ?_ (by decide +kernel) (by decide +kernel) (by decide +kernel)
  intro q hq
  have h : q = 2 ∨ q = 3 ∨ q = 11 ∨ q = 449 := by
    simp at hq; tauto
  rcases h with rfl | rfl | rfl | rfl
  · norm_num
  · norm_num
  · norm_num
  · norm_num

theorem prime_93001 : Nat.Prime 93001 := by
  refine prime_of_certificate _ 14 ([2, 2, 2, 3, 5, 5, 5, 31]) (by decide +kernel) ?_ (by decide +kernel) (by decide +kernel) (by decide +kernel)
  intro q hq
  have h : q = 2 ∨ q = 3 ∨ q = 5 ∨ q = 31 := by
    simp at hq; tauto
  rcases h with rfl | rfl | rfl | rfl
  · norm_num
  · norm_num
  · norm_num
  · norm_num

theorem prime_12048837557 : Nat.Prime 12048837557 := by
  refine prime_of_certificate _ 2 ([2, 2, 7, 7, 661, 93001]) (by decide +kernel) ?_ (by decide +kernel) (by decide +kernel) (by decide +kernel)
  intro q hq
  have h : q = 2 ∨ q = 7 ∨ q = 661 ∨ q = 93001 := by
    simp at hq; tauto
  rcases h with rfl | rfl | rfl | rfl
  · norm_num
  · norm_num
  · norm_num
  · exact prime_93001

theorem prime_5156902474397 : Nat.Prime 5156902474397 := by
  refine prime_of_certificate _ 2 ([2, 2, 107, 12048837557]) (by decide +kernel) ?_ (by decide +kernel) (by decide +kernel) (by decide +kernel)
  intro q hq
  have h : q = 2 ∨ q = 107 ∨ q = 12048837557 := by
    simp at hq; tauto
  rcases h with rfl | rfl | rfl
  · norm_num
  · norm_num
  · exact prime_12048837557

theorem prime_1670836401704629 : Nat.Prime 1670836401704629 := by
  refine prime_of_certificate _ 2 ([2, 2, 3, 3, 3, 3, 5156902474397]) (by decide +kernel) ?_ (by decide +kernel) (by decide +kernel) (by decide +kernel)
  intro q hq
  have h : q = 2 ∨ q = 3 ∨ q = 5156902474397 := by
    simp at hq; tauto
  rcases h with rfl | rfl | rfl
  · norm_num
  · norm_num
  · exact prime_5156902474397

theorem prime_5501 : Nat.Prime 5501 := by
  refine prime_of_certificate _ 2 ([2, 2, 5, 5, 5, 11]) (by decide +kernel) ?_ (by decide +kernel) (by decide +kernel) (by decide +kernel)
  intro q hq
  have h : q = 2 ∨ q = 5 ∨ q = 11 := by
    simp at hq; tauto
  rcases h with rfl | rfl | rfl
  · norm_num
  · norm_num
  · norm_num

theorem prime_11003 : Nat.Prime 11003 := by
  refine prime_of_certificate _ 2 ([2, 5501]) (by decide +kernel) ?_ (by decide +kernel) (by decide +kernel) (by decide +kernel)
  intro q hq
  have h : q = 2 ∨ q = 5501 := by simpa [List.mem_replicate] using hq
  rcases h with rfl | rfl
  · norm_num
  · exact prime_5501

theorem prime_3691 : Nat.Prime 3691 := by
  refine prime_of_certificate _ 2 ([2, 3, 3, 5, 41]) (by decide +kernel) ?_ (by decide +kernel) (by decide +kernel) (by decide +kernel)
  intro q hq
  have h : q = 2 ∨ q = 3 ∨ q = 5 ∨ q = 41 := by
    simp at hq; tauto
  rcases h with rfl | rfl | rfl | rfl
  · norm_num
  · norm_num
  · norm_num
  · norm_num

theorem prime_4999 : Nat.Prime 4999 := by
  refine prime_of_certificate _ 3 ([2, 3, 7, 7, 17]) (by decide +kernel) ?_ (by decide +kernel) (by decide +kernel) (by decide +kernel)
  intro q hq
  have h : q = 2 ∨ q = 3 ∨ q = 7 ∨ q = 17 := by
    simp at hq; tauto
  rcases h with rfl | rfl | rfl | rfl
  · norm_num
  · norm_num
  · norm_num
  · norm_num

theorem prime_405928799 : Nat.Prime 405928799 := by
  refine prime_of_certificate _ 22 ([2, 11, 3691, 4999]) (by decide +kernel) ?_ (by decide +kernel) (by decide +kernel) (by decide +kernel)
  intro q hq
  have h : q = 2 ∨ q = 11 ∨ q = 3691 ∨ q = 4999 := by simpa [List.mem_replicate] using hq
  rcases h with rfl | rfl | rfl | rfl
  · norm_num
  · norm_num
  · exact prime_3691
  · exact prime_4999

/-- The reference modulus is prime. -/
theorem prime_N : Nat.Prime 0x30644e72e131a029b85045b68181585d2833e84879b9709143e1f593f0000001 := by
  refine prime_of_certificate _ 5 (List.replicate 28 2 ++ [3, 3, 13, 29, 983, 11003, 237073, 405928799, 1670836401704629, 13818364434197438864469338081]) (by decide +kernel) ?_ (by decide +kernel) (by decide +kernel) (by decide +kernel)
  intro q hq
  have h : q = 2 ∨ q = 3 ∨ q = 13 ∨ q = 29 ∨ q = 983 ∨ q = 11003 ∨ q = 237073 ∨ q = 405928799 ∨ q = 1670836401704629 ∨ q = 13818364434197438864469338081 := by
    simp at hq; tauto
  rcases h with rfl | rfl | rfl | rfl | rfl | rfl | rfl | rfl | rfl | rfl
  · norm_num
  · norm_num
  · norm_num
  · norm_num
  · norm_num
  · exact prime_11003
  · exact prime_237073
  · exact prime_405928799
  · exact prime_1670836401704629
  · exact prime_13818364434197438864469338081

/-- The reference instance is well formed. -/
theorem reference_wellFormed : Cfg.reference.WellFormed where
  prime := prime_N
  odd := by decide +kernel
  lt := by decide +kernel
  negN := by decide +kernel
  r2 := by decide +kernel
  r3 := by decide +kernel
  oneM := by decide +kernel
  ninv0 := by decide +kernel
  root_length := by decide +kernel
  root_lt := by decide +kernel
  root_zero := by decide +kernel
  root_one := by decide +kernel
  root_tower := by decide +kernel
  vmSize := ⟨10, by decide, by decide⟩
  jMaxLen := ⟨8, by decide⟩
  pMaxDeg := ⟨8, by decide⟩
  csrBase := by decide
  vmBase := by decide
  disjoint := by decide

end Sys2Proof.Laws
end

