-- ==== Sys2Proof/Tests/Slice0.lean ====
section
/-! SUPPORT. The session's own tests. Expected values are the spec's: V<n> is a vector of spec/95, 96 or 97; a word without a
vector is written out from the format and opcode of 30_encoding.md R101, R102, R109. Then one witness for the hypotheses of
every obligation. -/

namespace Sys2Proof.Tests

open Sys2Proof.Machine Sys2Proof.Laws

set_option Elab.async false

/-! Helpers -/

/-- Part of the next state, `none` at a stop. -/
def look {α : Type} (g : State → α) : Host.Outcome State Fault Refusal → Option α
  | .next t => some (g t)
  | _ => none

/-- The cause and the information words of the fault taken, from a state whose `CSEQ` is 0 and stays so. -/
def trapOf (o : Host.Outcome State Fault Refusal) : Option (List Nat) :=
  look (fun t => if t.fault && t.cseq == 0 then
    [t.frec.cause.toNat, t.frec.info0.toNat, t.frec.info1.toNat, t.frec.info2.toNat] else []) o

/-- The reset state with some element registers set. -/
def withF (l : List (RegIdx × U256)) : State := l.foldl (fun s p => s.setF p.1 p.2) State.reset

/-- The reset state with some slots of `VM` written from `addr` up. -/
def withVm (addr : Nat) (vs : List U256) : State := State.reset.memWrite addr vs

/-- The reset state with some job slots filled. -/
def withJobs (l : List (JobIdx × JobEntry)) : State := l.foldl (fun s p => s.setJob p.1 (some p.2)) State.reset

/-- The reset state with some descriptors valid. -/
def withPolys (l : List (PolyIdx × Poly)) : State := l.foldl (fun s p => s.setPoly p.1 (some p.2)) State.reset

/-- The modulus (V5). -/
def nRef : U256 := 0x30644e72e131a029b85045b68181585d2833e84879b9709143e1f593f0000001

/-- `m(0)` to `m(10)` (V5). -/
def m (x : Nat) : U256 :=
  [0,
   0x0e0a77c19a07df2f666ea36f7879462e36fc76959f60cd29ac96341c4ffffffb,
   0x1c14ef83340fbe5eccdd46def0f28c5c6df8ed2b3ec19a53592c68389ffffff6,
   0x2a1f6744ce179d8e334bea4e696bd28aa4f563c0de22677d05c29c54effffff1,
   0x07c5909386eddc93e16a48076063c05bb3bdf20e03c9c4156e76dadd4fffffeb,
   0x15d0085520f5bbc347d8eb76d8dd0689eaba68a3a32a913f1b0d0ef99fffffe6,
   0x23da8016bafd9af2ae478ee651564cb821b6df39428b5e68c7a34315efffffe1,
   0x0180a96573d3d9f85c65ec9f484e3a89307f6d866832bb013057819e4fffffdb,
   0x0f8b21270ddbb927c2d4900ec0c780b7677be41c0793882adcedb5ba9fffffd6,
   0x1d9598e8a7e398572943337e3940c6e59e785ab1a6f455548983e9d6efffffd1,
   0x2ba010aa41eb77868fb1d6edb1ba0d13d574d1474655227e361a1df33fffffcc].getD x 0

/-- `m(N-1)`, which denotes -1 (V5). -/
def mNeg1 : U256 := 0x2259d6b14729c0fa51e1a2470908122ef13771b2da58a367974bc177a0000006

/-- `m(N-2)`, which denotes -2 (V5). -/
def mNeg2 : U256 := 0x144f5eefad21e1caeb72fed7908ecc00ba3afb1d3af7d63deab58d5b5000000b

/-- `ROOT[2]` (V20). -/
def root2 : U256 := 0x2b377b3539c108cf8db1627974096c6e5f3f172cb14791207f753d979edcef8b

/-- `A` of V9. -/
def vA : U256 := 0x0dbd9d7381e74ef5e8e25d940ed904759531985d5d9dc9f81818e811892f902b

/-- `B` of V9. -/
def vB : U256 := 0x23445bb31738f7d93d9c172411e20b8f6b0d549b6f03675a1600a35a099950d8

/-- The transform of `m(1..4)` (V11). -/
def v11 : List U256 :=
  [0x2ba010aa41eb77868fb1d6edb1ba0d13d574d1474655227e361a1df33fffffcc,
   0x1ea9056afc03107f40b0c551ab7ea3de4c249d54cbdb951f738efd53f24620f7,
   0x144f5eefad21e1caeb72fed7908ecc00ba3afb1d3af7d63deab58d5b5000000b,
   0x09f5b8745e40b3169635385d759ef423285158e5aa14175c61dc1d62adb9df1f]

/-- `m(1..4)`. -/
def in11 : List U256 := [m 1, m 2, m 3, m 4]

/-! WellFormed: an ill-formed term for each check, refused, and the last value each check admits -/

theorem test_wf_refuses_registers :
    ([.lde 16 0, .ste 16 0, .ldi 16 0, .rdw 16 0, .uclr 16, .umov 16 0, .umov 0 16, .uadd 16 0 0, .uadd 0 16 0, .uadd 0 0 16,
      .usub 16 0 0, .usub 0 16 0, .usub 0 0 16, .uneg 16 0, .uneg 0 16, .umul256 16 0 0, .umul256 0 16 0, .umul256 0 0 16,
      .umul512 16 0, .umul512 0 16, .ueq 16 0, .ueq 0 16, .monpro 16 0 0, .monpro 0 16 0, .monpro 0 0 16, .monadd 16 0 0,
      .monadd 0 16 0, .monadd 0 0 16, .monsub 16 0 0, .monsub 0 16 0, .monsub 0 0 16, .tomont 16 0, .tomont 0 16,
      .frommont 16 0, .frommont 0 16, .fzero 16, .fone 16, .fsqr 16 0, .fsqr 0 16, .fneg 16 0, .fneg 0 16, .finv 16 0,
      .finv 0 16, .frand 16, .frands 16 0 0, .froot 16 0 0, .ffromcan 16 0, .ffromcan 0 16, .ftocan 16 0, .ftocan 0 16,
      .feq 16 0, .feq 0 16, .fisz 16, .fftr2 16 0 0 0, .peval 16 0 0, .peval 0 0 16] : List Instr).all (fun i => !i.wf) = true := by
  decide

theorem test_wf_refuses_slots_and_selectors :
    ([.rdw 0 2, .fft4 32 0 0 0 0, .fft4 0 32 0 0 0, .jnew 64 0 0 0, .jfork 64 0 0, .jfork 0 64 0, .jfft 64, .jmerge 64 0,
      .jmerge 0 64, .jst 64 0, .jfree 64, .jqry 64, .pnew 8 0 0, .pnewp 8 0 0, .pext 8 0, .padd 8 0 0, .padd 0 8 0,
      .padd 0 0 8, .pmul 8 0 0, .pmul 0 8 0, .pmul 0 0 8, .peval 0 8 0, .pcoef 8, .ppoint 8, .pstc 8 0, .pstp 8 0, .pfree 8,
      .pqry 8] : List Instr).all (fun i => !i.wf) = true := by
  decide

theorem test_wf_admits_the_last_value :
    ([.nop, .uadd 15 15 15, .rdw 15 1, .fft4 31 31 0 0 0, .jfork 63 63 0, .padd 7 7 7, .peval 15 7 15] : List Instr).all
      (fun i => i.wf) = true := by
  decide

/-! Decoding, every constructor -/

theorem test_decode_data_movement :
    decode (joinWords 0x00000000 0 0 0) = .ok .nop ∧  -- V12
    decode (joinWords 0x00000301 5 0 0) = .ok (.lde 3 5) ∧  -- V12
    decode (joinWords 0x00000002 9 0 0) = .ok (.ste 0 9) ∧  -- V12
    decode (joinWords 0x00000103 7 0 0) = .ok (.ldi 1 7) ∧  -- V12
    decode (joinWords 0x01000304 0 0 0) = .ok (.rdw 3 1) := by  -- V12
  decide +kernel

theorem test_decode_integer :
    decode (joinWords 0x00000310 0 0 0) = .ok (.uclr 3) ∧  -- V12
    decode (joinWords 0x00010211 0 0 0) = .ok (.umov 2 1) ∧  -- V12
    decode (joinWords 0x02010012 0 0 0) = .ok (.uadd 0 1 2) ∧  -- V12
    decode (joinWords 0x03020713 0 0 0) = .ok (.usub 7 2 3) ∧  -- V25
    decode (joinWords 0x00000c14 0 0 0) = .ok (.uneg 12 0) ∧  -- V25
    decode (joinWords 0x030f0a15 0 0 0) = .ok (.umul256 10 15 3) ∧
    decode (joinWords 0x03020016 0 0 0) = .ok (.umul512 2 3) ∧  -- V25
    decode (joinWords 0x02010017 0 0 0) = .ok (.ueq 1 2) := by  -- V12
  decide +kernel

theorem test_decode_montgomery :
    decode (joinWords 0x02010320 0 0 0) = .ok (.monpro 3 1 2) ∧  -- V12
    decode (joinWords 0x03020621 0 0 0) = .ok (.monadd 6 2 3) ∧  -- V25
    decode (joinWords 0x02010922 0 0 0) = .ok (.monsub 9 1 2) ∧  -- V24
    decode (joinWords 0x000f0423 0 0 0) = .ok (.tomont 4 15) ∧  -- V12
    decode (joinWords 0x00020d24 0 0 0) = .ok (.frommont 13 2) := by
  decide +kernel

theorem test_decode_field :
    decode (joinWords 0x00000530 0 0 0) = .ok (.fzero 5) ∧
    decode (joinWords 0x00000731 0 0 0) = .ok (.fone 7) ∧  -- V24
    decode (joinWords 0x00030232 0 0 0) = .ok (.fsqr 2 3) ∧
    decode (joinWords 0x00090a33 0 0 0) = .ok (.fneg 10 9) ∧  -- V24
    decode (joinWords 0x00040534 0 0 0) = .ok (.finv 5 4) ∧  -- V12
    decode (joinWords 0x00000e35 0 0 0) = .ok (.frand 14) ∧
    decode (joinWords 0x00000036 7 0 0) = .ok (.frands 0 7 0) ∧  -- V12
    decode (joinWords 0x00000037 0 0x40000000 0) = .ok (.froot 0 0 0x40000000) ∧  -- V12
    decode (joinWords 0x00010138 0 0 0) = .ok (.ffromcan 1 1) ∧  -- V24
    decode (joinWords 0x00040839 0 0 0) = .ok (.ftocan 8 4) ∧  -- V24
    decode (joinWords 0x0706003a 0 0 0) = .ok (.feq 6 7) ∧  -- V24
    decode (joinWords 0x0001003b 0 0 0) = .ok (.fisz 1) := by  -- V12
  decide +kernel

theorem test_decode_transforms :
    decode (joinWords 0x00000040 1 8 4) = .ok (.fftrec 1 8 4) ∧
    decode (joinWords 0x00070041 0 8 4) = .ok (.fftr2 7 0 8 4) ∧  -- V12
    decode (joinWords 0x02010042 0 8 8) = .ok (.fft4 1 2 0 8 8) ∧  -- V12
    decode (joinWords 0x00000043 8 16 8) = .ok (.ifft 8 16 8) := by  -- V12
  decide +kernel

theorem test_decode_jobs :
    decode (joinWords 0x00000050 0 4 9) = .ok (.jnew 0 0 4 9) ∧  -- V12
    decode (joinWords 0x00000151 1 0 0) = .ok (.jfork 1 0 1) ∧  -- V12
    decode (joinWords 0x00000252 0 0 0) = .ok (.jfft 2) ∧  -- V12
    decode (joinWords 0x00020153 0 0 0) = .ok (.jmerge 1 2) ∧  -- V12
    decode (joinWords 0x00000054 9 0 0) = .ok (.jfind 9) ∧  -- V12
    decode (joinWords 0x00000055 9 0 0) = .ok (.jrun 9) ∧  -- V12
    decode (joinWords 0x00010056 8 0 0) = .ok (.jst 1 8) ∧  -- V12
    decode (joinWords 0x00003f57 0 0 0) = .ok (.jfree 63) ∧  -- V12
    decode (joinWords 0x00020058 0 0 0) = .ok (.jqry 2) := by  -- V12
  decide +kernel

theorem test_decode_polynomials :
    decode (joinWords 0x00000160 4 2 0) = .ok (.pnew 1 4 2) ∧  -- V2
    decode (joinWords 0x00000161 0 4 0) = .ok (.pnewp 1 0 4) ∧  -- V12
    decode (joinWords 0x00000062 8 0 0) = .ok (.pext 0 8) ∧  -- V12
    decode (joinWords 0x01000263 0 0 0) = .ok (.padd 2 0 1) ∧  -- V12
    decode (joinWords 0x01000264 0 0 0) = .ok (.pmul 2 0 1) ∧  -- V12
    decode (joinWords 0x01020065 0 0 0) = .ok (.peval 0 2 1) ∧  -- V20a
    decode (joinWords 0x00000266 0 0 0) = .ok (.pcoef 2) ∧  -- V12
    decode (joinWords 0x00000267 0 0 0) = .ok (.ppoint 2) ∧  -- V20a
    decode (joinWords 0x00020068 16 0 0) = .ok (.pstc 2 16) ∧  -- V12
    decode (joinWords 0x00030069 24 0 0) = .ok (.pstp 3 24) ∧
    decode (joinWords 0x0000026a 0 0 0) = .ok (.pfree 2) ∧  -- V20a
    decode (joinWords 0x0007006b 0 0 0) = .ok (.pqry 7) := by  -- V12
  decide +kernel

/-- V14: every row is refused, by reason. -/
theorem test_decode_refuses :
    ([0x05, 0x18, 0x3c, 0x6c, 0x70, 0xff] : List Word).all (fun w => decide (decode (joinWords w 0 0 0) = .error .unassignedOpcode))
      = true ∧
    ([joinWords 0x00000100 0 0 0, joinWords 0 0 0 0x80000000, joinWords 0x03010211 0 0 0, joinWords 0x00000310 5 0 0,
      joinWords 0x01010116 0 0 0, joinWords 0x00000037 4 0 1, joinWords 0x00000140 0 0 8, joinWords 0x00020153 1 0 0,
      joinWords 0x0000016b 0 0 0] : List Command).all (fun c => decide (decode c = .error .unusedField)) = true ∧
    ([joinWords 0x02011012 0 0 0, joinWords 0x82010012 0 0 0, joinWords 0x02000304 0 0 0, joinWords 0x00200042 0 0 8,
      joinWords 0x00004050 0 4 0, joinWords 0x00000860 0 3 0, joinWords 0x01080065 0 0 0, joinWords 0x01001065 0 0 0] :
      List Command).all (fun c => decide (decode c = .error .indexRange)) = true := by
  decide +kernel

/-- The table's numbering: the first word is the low one, later words count on (30_encoding.md R100). -/
theorem test_table_word :
    decodeTableWord 128 0x00000008000000080000000002010042 = some (.fft4 1 2 0 8 8) ∧  -- V12
    decodeTableWord 32 0x02010012 = some (.uadd 0 1 2) ∧ decodeTableWord 128 0x05 = none := by
  decide +kernel

/-! Data movement and integers (V7, V15 and the rules' examples) -/

theorem test_nop : look (fun t => (t.cseq, t.busy, t.f == State.reset.f)) (exec .nop State.reset) = some (1, false, true) := by
  decide +kernel

theorem test_lde : look (fun t => t.getF 3) (exec (.lde 3 5) (withVm 5 [m 3])) = some (m 3) := by decide +kernel

theorem test_lde_bounds : trapOf (exec (.lde 3 1024) State.reset) = some [10, 1024, 1, 0] := by decide +kernel

theorem test_ste : look (fun t => (t.vmSlot 9, t.vmByte (32 * 9), t.vmByte (32 * 9 + 31))) (exec (.ste 1 9) (withF [(1, m 3)])) =
    some (m 3, 0xf1, 0x2a) := by  -- V6
  decide +kernel

theorem test_ldi : look (fun t => t.getF 1) (exec (.ldi 1 0xffffffff) (withF [(1, -1)])) = some 0xffffffff := by decide +kernel

theorem test_rdw : look (fun t => t.getF 2) (exec (.rdw 2 0) (State.reset.setW (-(2 ^ 257) + 1))) = some 1 ∧
    look (fun t => t.getF 3) (exec (.rdw 3 1) (State.reset.setW (-(2 ^ 257) + 1))) = some (-2) := by
  decide +kernel

theorem test_uclr : look (fun t => (t.getF 3, t.getF 2)) (exec (.uclr 3) (withF [(3, -1), (2, 5)])) = some (0, 5) := by
  decide +kernel

theorem test_umov : look (fun t => (t.getF 2, t.getF 1)) (exec (.umov 2 1) (withF [(1, 0x0123)])) = some (0x0123, 0x0123) := by
  decide +kernel

theorem test_uadd_wraps : look (fun t => (t.getF 0, t.flagC, t.flagS)) (exec (.uadd 0 1 2) (withF [(1, -1), (2, 1)])) =
    some (0, true, false) := by
  decide +kernel

theorem test_uadd_sign : look (fun t => (t.getF 0, t.flagC, t.flagS)) (exec (.uadd 0 1 2) (withF [(1, 2 ^ 255 - 1), (2, 1)])) =
    some (2 ^ 255, false, true) := by
  decide +kernel

theorem test_usub_borrows : look (fun t => (t.getF 0, t.flagC, t.flagS)) (exec (.usub 0 1 2) (withF [(1, 3), (2, 5)])) =
    some (-2, true, true) := by
  decide +kernel

theorem test_usub_sign_is_not_borrow :
    look (fun t => (t.getF 0, t.flagC, t.flagS)) (exec (.usub 0 1 2) (withF [(1, 2 ^ 255), (2, 0)])) = some (2 ^ 255, false, true) := by
  decide +kernel

theorem test_uneg : look (fun t => (t.getF 0, t.flagS)) (exec (.uneg 0 1) (withF [(1, 2 ^ 255)])) = some (2 ^ 255, true) ∧
    look (fun t => (t.getF 0, t.flagS, t.flagC)) (exec (.uneg 0 1) (withF [])) = some (0, false, false) := by
  decide +kernel

theorem test_umul256 :
    look (fun t => (t.getF 0, t.w)) (exec (.umul256 0 1 2) (withF [(1, nRef), (2, 0xefffffff)])) =
      some (0x82ba37b43b99a1316118fd20d42f5166c9e9f13fb5ea65a96d1e0a6cffffffff, 0) := by
  decide +kernel

theorem test_umul512 : look (fun t => t.w) (exec (.umul512 1 1) (withF [(1, -1)])) = some (-(2 ^ 257) + 1) := by decide +kernel

theorem test_ueq : look (fun t => t.flagZ) (exec (.ueq 1 2) (withF [(1, 5), (2, 5 + 2 ^ 224)])) = some false ∧
    look (fun t => t.flagZ) (exec (.ueq 3 3) (withF [(3, -1)])) = some true := by
  decide +kernel

/-! Montgomery (V8, V9) and field (V10) -/

theorem test_monpro : look (fun t => t.getF 0) (exec (.monpro 0 1 2) (withF [(1, vA), (2, vB)])) =
    some 0x00e6a40328e4369657a5ce471a731db57fcea08e92af26bfa4697bc077248431 := by
  decide +kernel

theorem test_monpro_largest : look (fun t => t.getF 1) (exec (.monpro 1 1 1) (withF [(1, nRef - 1)])) =
    some 0x15ebf95182c5551cc8260de4aeb85d5d090ef5a9e111ec87dc5ba0056db1194e := by
  decide +kernel

/-- V8: the accumulator after the last round of `MonPro(1, 1)`, and the limbs after round 0. -/
theorem test_cios_rounds :
    (cios Cfg.reference 1 1).value = 0x15ebf95182c5551cc8260de4aeb85d5d090ef5a9e111ec87dc5ba0056db1194e ∧
    cioRound Cfg.reference (limbsOf 1) Acc.zero 1 =
      ⟨[0x6d1e0a6d, 0xb5ea65a9, 0xc9e9f13f, 0xd42f5166, 0x6118fd20, 0x3b99a131, 0x82ba37b4, 0x2d5e098b], 0⟩ := by
  decide +kernel

theorem test_monadd : look (fun t => t.getF 0) (exec (.monadd 0 1 2) (withF [(1, mNeg1), (2, m 1)])) = some 0 := by decide +kernel

theorem test_monadd_largest : look (fun t => t.getF 0) (exec (.monadd 0 1 1) (withF [(1, nRef - 1)])) = some (nRef - 2) := by
  decide +kernel

theorem test_monsub : look (fun t => t.getF 0) (exec (.monsub 0 1 2) (withF [(1, m 3), (2, m 5)])) = some mNeg2 := by decide +kernel

theorem test_monsub_largest : look (fun t => t.getF 0) (exec (.monsub 0 1 2) (withF [(2, nRef - 1)])) = some 1 := by decide +kernel

theorem test_tomont : look (fun t => t.getF 0) (exec (.tomont 0 1) (withF [(1, vA)])) =
    some 0x170864cffdcad29e9252efdf19995aa08ad60293b54fd474a0654100b52482d7 := by
  decide +kernel

theorem test_frommont : look (fun t => t.getF 0) (exec (.frommont 0 1) (withF [(1, vA)])) =
    some 0x0c76daf57731bab0a4adcb34e2c1a2bc0551f1ef719373ad61a0dd99a5325e9a := by
  decide +kernel

theorem test_fzero_fone : look (fun t => t.getF 0) (exec (.fzero 0) (withF [(0, -1)])) = some 0 ∧
    look (fun t => t.getF 15) (exec (.fone 15) State.reset) = some (m 1) := by
  decide +kernel

theorem test_fsqr : look (fun t => t.getF 0) (exec (.fsqr 0 1) (withF [(1, root2)])) = some mNeg1 := by decide +kernel

theorem test_fneg : look (fun t => t.getF 0) (exec (.fneg 0 1) (withF [(1, m 1)])) = some mNeg1 ∧
    look (fun t => t.getF 0) (exec (.fneg 0 1) (withF [(0, 7)])) = some 0 := by
  decide +kernel

theorem test_finv : look (fun t => t.getF 0) (exec (.finv 0 1) (withF [(1, vA)])) =
    some 0x0d7a7492ba0630b8bad5e8d46fefc676ca7f614137589c4851aba2355fbe8d23 := by
  decide +kernel

theorem test_finv_zero : look (fun t => (t.getF 0, t.fault)) (exec (.finv 0 1) (withF [(0, 7)])) = some (0, false) := by decide +kernel

/-- `FRAND` draws; the only checkable fact of V10, `F[0] < N`, is a statement for the provers. -/
theorem test_frand : look (fun t => (t.draws, t.cseq)) (exec (.frand 0) State.reset) = some (1, 1) := by decide +kernel

/-- V10: the same seed gives the same element, in another register. -/
theorem test_frands (s : State) : (look (fun t => t.getF 0) (exec (.frands 0 7 0) (s.setF 0 0))) =
    look (fun t => t.getF 1) (exec (.frands 1 7 0) (s.setF 1 0)) := by
  change some _ = some _
  congr 1
  exact (getF_setF_same (s.setF 0 0) 0 _ (by decide)).trans (getF_setF_same (s.setF 1 0) 1 _ (by decide)).symm

theorem test_froot : look (fun t => (t.getF 0, t.rinit)) (exec (.froot 0 4 0) State.reset) = some (root2, true) := by decide +kernel

theorem test_froot_order : trapOf (exec (.froot 0 0 0x40000000) State.reset) = some [7, 0, 0x40000000, 0] ∧
    trapOf (exec (.froot 0 0x20000000 0) State.reset) = some [7, 0x20000000, 0, 0] ∧
    trapOf (exec (.froot 0 0 0) State.reset) = some [7, 0, 0, 0] := by
  decide +kernel

theorem test_ffromcan : look (fun t => t.getF 0) (exec (.ffromcan 0 1) (withF [(1, nRef - 1)])) = some mNeg1 := by decide +kernel

theorem test_ffromcan_range : trapOf (exec (.ffromcan 0 1) (withF [(1, nRef)])) = some [9, 0x30644e72, 0xf0000001, 0] := by
  decide +kernel

theorem test_ftocan : look (fun t => t.getF 0) (exec (.ftocan 0 1) (withF [(1, mNeg1)])) = some (nRef - 1) := by decide +kernel

theorem test_feq : look (fun t => t.flagZ) (exec (.feq 1 2) (withF [(1, 5), (2, 5 + nRef)])) = some false := by decide +kernel

theorem test_fisz : look (fun t => t.flagZ) (exec (.fisz 1) (withF [(1, nRef)])) = some false ∧
    look (fun t => t.flagZ) (exec (.fisz 1) State.reset) = some true := by
  decide +kernel

/-- U1: an unreduced operand gives a free value, no fault. -/
theorem test_monadd_open : exec (.monadd 0 1 1) (withF [(1, nRef)]) =
    .next (complete ((((withF [(1, nRef)]).setF 0 (Config.anyElement 0))).drawn 1)) := rfl

/-! Transforms (V11, V13a, V16a) -/

theorem test_fftrec : look (fun t => (t.memRead 1 4, t.rinit)) (exec (.fftrec 0 1 4) (withVm 0 in11)) = some (v11, true) := by
  decide +kernel

theorem test_fftrec_faults : trapOf (exec (.fftrec 0 8 6) State.reset) = some [2, 6, 0x40, 0] ∧
    trapOf (exec (.fftrec 0 0 0x20000000) State.reset) = some [7, 0x20000000, 0, 0] ∧
    trapOf (exec (.fftrec 1020 0 8) State.reset) = some [10, 1020, 8, 0] ∧
    trapOf (exec (.fftrec 0 1020 8) State.reset) = some [10, 1020, 8, 0] := by
  decide +kernel

theorem test_fftr2 : look (fun t => t.memRead 0 4) (exec (.fftr2 7 0 0 4) ((withVm 0 in11).setF 7 root2)) = some v11 := by
  decide +kernel

/-- V13a: with root 1 the stages give `[10, -4, -2, 0]`. -/
theorem test_fftr2_other_root : look (fun t => t.memRead 4 4) (exec (.fftr2 7 0 4 4) ((withVm 0 in11).setF 7 (m 1))) =
    some [m 10, monAdd Cfg.reference mNeg2 mNeg2, mNeg2, 0] := by
  decide +kernel

theorem test_fft4 : look (fun t => t.memRead 8 4) (exec (.fft4 1 1 0 8 4) (withVm 0 in11)) = some v11 ∧
    look (fun t => t.memRead 8 4) (exec (.fft4 0 2 0 8 4) (withVm 0 in11)) = some v11 := by
  decide +kernel

theorem test_fft4_faults : trapOf (exec (.fft4 1 1 0 8 8) State.reset) = some [13, 2, 2, 8] ∧
    trapOf (exec (.fft4 1 2 0 8 6) State.reset) = some [2, 6, 0x42, 0] := by
  decide +kernel

theorem test_ifft : look (fun t => t.memRead 8 4) (exec (.ifft 4 8 4) (withVm 4 v11)) = some in11 := by decide +kernel

theorem test_ifft_fault : trapOf (exec (.ifft 0 8 12) State.reset) = some [2, 12, 0x43, 0] := by decide +kernel

/-! Jobs (V17, V18, V19) -/

/-- A Job of V17. -/
def job (q : Word) (data : List U256) : JobEntry := ⟨.job, 9, q, false, data⟩

/-- A MergeJob of V17. -/
def mergeJob (q : Word) (side : Bool) (data : List U256) : JobEntry := ⟨.mergeJob, 9, q, side, data⟩

theorem test_jnew : look (fun t => t.getJob 0) (exec (.jnew 0 0 4 9) (withVm 0 in11)) = some (some (job 0 in11)) := by decide +kernel

theorem test_jnew_faults : trapOf (exec (.jnew 0 0 4 9) (withJobs [(0, job 0 in11)])) = some [11, 0, 1, 0] ∧
    trapOf (exec (.jnew 1 0 3 9) State.reset) = some [2, 3, 0x50, 0] ∧
    trapOf (exec (.jnew 1 0 512 9) State.reset) = some [12, 0x200, 0x100, 0] ∧
    trapOf (exec (.jnew 1 1022 4 9) State.reset) = some [10, 0x3fe, 4, 0] := by
  decide +kernel

theorem test_jfork :
    look (fun t => [t.getJob 0, t.getJob 1, t.getJob 2, t.getJob 3, t.getJob 4]) (exec (.jfork 1 0 1) (withJobs [(0, job 0 in11)])) =
      some [some (job 0 in11), some (job 3 [m 1]), some (job 4 [m 3]), some (job 5 [m 2]), some (job 6 [m 4])] := by
  decide +kernel

theorem test_jfork_faults :
    trapOf (exec (.jfork 1 5 1) State.reset) = some [11, 5, 2, 0] ∧
    trapOf (exec (.jfork 1 0 8) (withJobs [(0, job 0 in11)])) = some [14, 8, 4, 0] ∧
    trapOf (exec (.jfork 1 0 0) (withJobs [(0, job 0 in11)])) = some [14, 0, 4, 0] ∧
    trapOf (exec (.jfork 62 0 1) (withJobs [(0, job 0 in11)])) = some [12, 0x42, 0x40, 1] ∧
    trapOf (exec (.jfork 1 0 1) (withJobs [(0, job 0 in11), (3, job 0 in11)])) = some [11, 3, 1, 0] ∧
    trapOf (exec (.jfork 1 0 1) (withJobs [(0, job 0x7fffffff [m 1, m 2])])) = some [14, 1, 2, 1] := by
  decide +kernel

theorem test_jfft : look (fun t => (t.getJob 4, t.rinit)) (exec (.jfft 4) (withJobs [(4, job 6 [m 4])])) =
    some (some (mergeJob 2 true [m 4]), true) := by
  decide +kernel

theorem test_jfft_fault : trapOf (exec (.jfft 2) (withJobs [(2, mergeJob 0 false [m 4])])) = some [11, 2, 2, 0] := by
  decide +kernel

theorem test_jmerge : look (fun t => (t.getJob 4, t.getJob 3))
    (exec (.jmerge 4 3) (withJobs [(3, mergeJob 2 false [m 2]), (4, mergeJob 2 true [m 4])])) =
      some (some (mergeJob 0 true [m 6, mNeg2]), none) := by
  decide +kernel

theorem test_jmerge_faults :
    trapOf (exec (.jmerge 1 2) (withJobs [(1, mergeJob 1 false [0]), (2, ⟨.mergeJob, 8, 2, false, [0, 0]⟩)])) =
      some [3, 1, 2, 0xf] ∧
    trapOf (exec (.jmerge 1 1) (withJobs [(1, mergeJob 1 false [0])])) = some [3, 1, 1, 4] ∧
    trapOf (exec (.jmerge 1 2) (withJobs [(1, mergeJob 1 false [0])])) = some [11, 2, 3, 0] := by
  decide +kernel

theorem test_jfind : look (fun t => (t.flagZ, t.res0, t.res1, t.res2))
    (exec (.jfind 9) (withJobs [(1, mergeJob 0 false [0, 0]), (3, mergeJob 2 false [0]), (4, mergeJob 2 true [0])])) =
      some (true, 3, 4, 3) := by
  decide +kernel

theorem test_jfind_none : look (fun t => (t.flagZ, t.res0, t.res1, t.res2))
    (exec (.jfind 9) ((withJobs [(1, mergeJob 0 false in11)]).setZ true)) = some (false, 0xffffffff, 0xffffffff, 1) ∧
    trapOf (exec (.jfind 9) (withJobs [(1, mergeJob 1 false [0]), (2, mergeJob 2 true [0])])) = some [4, 9, 2, 0] := by
  decide +kernel

theorem test_jrun : look (fun t => (t.getJob 8, t.getJob 9, t.res0, t.res1, t.res2))
    (exec (.jrun 9) (withJobs [(8, job 1 [m 1, m 3]), (9, job 2 [m 2, m 4])])) =
      some (some (mergeJob 0 false v11), none, 8, 0, 4) := by
  decide +kernel

/-- V19's last row: the forked root Job is still there. -/
theorem test_jrun_hazard : trapOf (exec (.jrun 9) (withJobs [(0, job 0 in11), (1, job 3 [m 1]), (2, job 4 [m 3]),
    (3, job 5 [m 2]), (4, job 6 [m 4])])) = some [3, 0, 3, 8] := by
  decide +kernel

theorem test_jst : look (fun t => t.memRead 8 4) (exec (.jst 1 8) (withJobs [(1, mergeJob 0 false v11)])) = some v11 := by
  decide +kernel

theorem test_jst_faults : trapOf (exec (.jst 3 0) State.reset) = some [11, 3, 4, 0] ∧
    trapOf (exec (.jst 0 1021) (withJobs [(0, job 0 in11)])) = some [10, 0x3fd, 4, 0] := by
  decide +kernel

theorem test_jfree : look (fun t => (t.getJob 63, t.getJob 1)) (exec (.jfree 63) (withJobs [(63, job 0 [0]), (1, job 0 [1])])) =
    some (none, some (job 0 [1])) := by
  decide +kernel

theorem test_jqry : look (fun t => (t.res0, t.res1, t.res2)) (exec (.jqry 1) (withJobs [(1, mergeJob 0 false [m 4, mNeg2])])) =
    some (0x103, 0, 9) ∧
    look (fun t => (t.res0, t.res1, t.res2)) (exec (.jqry 5) (State.reset.setRes 1 2 3)) = some (0, 0, 0) := by
  decide +kernel

/-! Polynomials (V2, V16, V20a, V21, V23) -/

/-- Coefficients only. -/
def coefs (v : List U256) : Poly := ⟨v.length, some v, none⟩

theorem test_pnew : look (fun t => t.getPoly 0) (exec (.pnew 0 0 3) (withVm 0 [m 1, m 2, m 3])) =
    some (some (coefs [m 1, m 2, m 3, 0])) := by
  decide +kernel

theorem test_pnew_faults : trapOf (exec (.pnew 0 0 3) (withPolys [(0, coefs [0])])) = some [15, 0, 1, 0] ∧
    trapOf (exec (.pnew 1 0 257) State.reset) = some [12, 0x200, 0x100, 2] ∧
    trapOf (exec (.pnew 1 1022 3) State.reset) = some [10, 0x3fe, 3, 0] := by
  decide +kernel

theorem test_pnewp : look (fun t => t.getPoly 1) (exec (.pnewp 1 0 4) (withVm 0 v11)) = some (some ⟨4, none, some v11⟩) := by
  decide +kernel

theorem test_pnewp_faults : trapOf (exec (.pnewp 1 0 3) State.reset) = some [2, 3, 0x61, 0] ∧
    trapOf (exec (.pnewp 1 0 0) State.reset) = some [2, 0, 0x61, 0] ∧
    trapOf (exec (.pnewp 1 0 512) State.reset) = some [12, 0x200, 0x100, 2] := by
  decide +kernel

theorem test_pext : look (fun t => t.getPoly 2) (exec (.pext 2 8) (withPolys [(2, ⟨4, some in11, some v11⟩)])) =
    some (some (coefs (in11 ++ [0, 0, 0, 0]))) ∧
    look (fun t => t.getPoly 2) (exec (.pext 2 4) (withPolys [(2, ⟨4, some in11, some v11⟩)])) =
      some (some ⟨4, some in11, some v11⟩) := by
  decide +kernel

theorem test_pext_faults : trapOf (exec (.pext 3 8) State.reset) = some [15, 3, 2, 0] ∧
    trapOf (exec (.pext 0 2) (withPolys [(0, coefs in11)])) = some [8, 2, 4, 0] ∧
    trapOf (exec (.pext 0 6) (withPolys [(0, coefs in11)])) = some [8, 6, 4, 0] ∧
    trapOf (exec (.pext 0 512) (withPolys [(0, coefs in11)])) = some [12, 0x200, 0x100, 2] := by
  decide +kernel

theorem test_padd : look (fun t => [t.getPoly 0, t.getPoly 1, t.getPoly 2])
    (exec (.padd 2 0 1) (withPolys [(0, coefs [m 1, m 2, m 3, 0]), (1, coefs [m 4, m 5])])) =
      some [some (coefs [m 1, m 2, m 3, 0]), some (coefs [m 4, m 5, 0, 0]), some (coefs [m 5, m 7, m 3, 0])] := by
  decide +kernel

theorem test_padd_faults : trapOf (exec (.padd 2 0 1) (withPolys [(0, coefs in11)])) = some [15, 1, 2, 0] ∧
    trapOf (exec (.padd 2 0 1) (withPolys [(0, coefs in11), (1, coefs [0]), (2, coefs [0])])) = some [15, 2, 1, 0] := by
  decide +kernel

/-- V2's point form, element 0 and element 4: 54 and -2. -/
theorem test_pmul : look (fun t => ((t.getPoly 2).map fun p => (p.degree, p.coef, (p.point.getD []).getD 0 0, (p.point.getD []).getD 4 0)))
    (exec (.pmul 2 0 1) (withPolys [(0, coefs [m 1, m 2, m 3, 0]), (1, coefs [m 4, m 5])])) =
      some (some (8, none, 0x2054aa1b4bc0b18dcea263d1d300a04a3e3667507c8dae476d719a4dcffffee3, mNeg2)) := by
  decide +kernel

theorem test_pmul_faults : trapOf (exec (.pmul 1 0 0) (withPolys [(0, coefs (List.replicate 256 0))])) =
    some [12, 0x200, 0x100, 2] := by
  decide +kernel

theorem test_peval : look (fun t => t.getF 0)
    (exec (.peval 0 2 1) ((withPolys [(2, coefs [m 5, m 7, m 3, 0])]).setF 1 (m 7))) =
      some 0x0f7e40faeaeff2c3aaae872c3fea152e10767b0e8efd94cf20bd46b66ffffbd9 := by
  decide +kernel

theorem test_peval_fault : trapOf (exec (.peval 0 4 1) State.reset) = some [15, 4, 2, 0] := by decide +kernel

theorem test_pcoef : look (fun t => (t.getPoly 1, t.rinit)) (exec (.pcoef 1) (withPolys [(1, ⟨4, none, some v11⟩)])) =
    some (some ⟨4, some in11, some v11⟩, true) := by
  decide +kernel

theorem test_ppoint : look (fun t => t.getPoly 1) (exec (.ppoint 1) (withPolys [(1, coefs in11)])) =
    some (some ⟨4, some in11, some v11⟩) := by
  decide +kernel

theorem test_pstc : look (fun t => (t.memRead 8 4, t.getPoly 1)) (exec (.pstc 1 8) (withPolys [(1, ⟨4, none, some v11⟩)])) =
    some (in11, some ⟨4, some in11, some v11⟩) := by
  decide +kernel

theorem test_pstc_fault : trapOf (exec (.pstc 0 1021) (withPolys [(0, coefs in11)])) = some [10, 0x3fd, 4, 0] := by
  decide +kernel

theorem test_pstp : look (fun t => (t.memRead 16 4, t.getPoly 0)) (exec (.pstp 0 16) (withPolys [(0, coefs in11)])) =
    some (v11, some ⟨4, some in11, some v11⟩) := by
  decide +kernel

theorem test_pfree : look (fun t => (t.getPoly 5, t.getPoly 0)) (exec (.pfree 5) (withPolys [(5, coefs [0]), (0, coefs [1])])) =
    some (none, some (coefs [1])) := by
  decide +kernel

theorem test_pqry : look (fun t => (t.res0, t.res1, t.res2)) (exec (.pqry 1) (withPolys [(1, ⟨4, none, some v11⟩)])) = some (5, 4, 0) ∧
    look (fun t => (t.res0, t.res1, t.res2)) (exec (.pqry 5) (State.reset.setRes 1 2 3)) = some (0, 0, 0) := by
  decide +kernel

/-! The host, reset, the step (V6, V31, V32) -/

/-- The reset state with one pending move of the host. -/
def withMove (mv : HostMove) : State := { State.reset with host := [mv] }

theorem test_register_map :
    csrRead (withF [(2, m 3)]) 0x410 = 0xeffffff1 ∧ csrRead (withF [(2, m 3)]) 0x417 = 0x2a1f6744 ∧
    csrRead State.reset 0x110 = 0x9edcef8b ∧ csrRead State.reset 0x010 = 0x1c084010 ∧ csrRead State.reset 0x011 = 0x0008080a ∧
    csrRead State.reset 0x048 = 0xefffffff ∧ csrRead State.reset 0x800 = 0 := by
  decide +kernel

theorem test_issue : look (fun t => (t.busy, t.current)) (step { withMove (.regWrite 0x803 8) with cmd0 := 0x02010042, cmd2 := 8 }) =
    some (true, 0x00000008000000080000000002010042) := by
  decide +kernel

theorem test_bus_limb : look (fun t => t.vmByte (32 * 5 + 4)) (step (withMove (.busWrite (0x10000 + 160 + 4) 32 0x05c29c54))) =
    some 0x54 := by
  decide +kernel

theorem test_host_reads :
    look (fun t => t.rdata) (step { withF [(2, m 3)] with host := [.busRead 0x105c 32] }) = some 0x2a1f6744 ∧  -- V6
    look (fun t => t.rdata) (step { withVm 5 [m 3] with host := [.busRead (0x10000 + 160 + 28) 32] }) = some 0x2a1f6744 := by  -- V6
  decide +kernel

theorem test_bus_not_a_word : step (withMove (.busRead 2 32)) = .refused (.hostAccessNotAWord 2 32) ∧
    step (withMove (.busWrite 0x3000 32 0)) = .fault (.hostAddressAbsent 0x3000) := ⟨rfl, rfl⟩

theorem test_step_runs : look (fun t => (t.getF 1, t.busy, t.cseq)) (step (State.reset.withFetchWord 128 0x700000103)) =
    some (7, false, 1) := by
  decide +kernel

theorem test_step_illegal : trapOf (step (State.reset.withFetchWord 128 0x05)) = some [1, 0, 0, 0] ∧
    look (fun t => (t.frec.cmd0, t.irqFault, t.idle)) (step (State.reset.withFetchWord 128 0x05)) = some (5, true, false) := by
  decide +kernel

theorem test_reset_clears : look (fun t => (t.getF 1, t.fault, t.idle, t.epoch)) (step { withF [(1, 7)] with fault := true, host := [.reset] }) =
    some (0, false, true, 1) := by
  decide +kernel

/-! Witnesses: for every obligation with hypotheses, states and operands that meet them, clause by clause, at the ends of
their ranges. -/

/-- A length that is no power of two. -/
theorem not_pow2 {n : Nat} (h : isPow2 n = false) (k : Nat) : n ≠ 2 ^ k := by
  rintro rfl
  simp [isPow2_pow] at h

/-- The reset state with a captured command. -/
def running (i : Instr) : State := presentCommand State.reset (encode i)

/-- A configuration that is not well formed, with `MAXLOG = 1`: the root faults on short vectors. -/
def tiny : Cfg := { Cfg.reference with n := 3 }

/-- A state of that configuration. -/
def onTiny (s : State) : State := { s with cfg := tiny }

theorem reset_no_job (j : JobIdx) : State.reset.getJob j = none := by
  simp only [State.getJob, State.reset, State.powerOn, Vector.getElem?_replicate]
  split <;> rfl

theorem reset_no_poly (p : PolyIdx) : State.reset.getPoly p = none := by
  simp only [State.getPoly, State.reset, State.powerOn, Vector.getElem?_replicate]
  split <;> rfl

/-- A busy state with a job, a descriptor and written memory. -/
def rich : State :=
  ((running (.ste 1 1023)).setJob 63 (some (mergeJob 1 true [m 1, m 2]))).setPoly 7 (some ⟨2, some [m 1, m 2], some [m 3, mNeg1]⟩)
    |>.memWrite 1020 in11

theorem rich_inv : rich.Inv where
  memory_wf := by decide +kernel
  memory_fits := by decide +kernel
  jobs := by
    intro j e h
    by_cases hj : j = 63
    · subst hj
      rw [show rich.getJob 63 = some (mergeJob 1 true [m 1, m 2]) by decide +kernel] at h
      cases h
      exact ⟨by decide, by decide, by decide⟩
    · rw [show rich.getJob j = State.reset.getJob j from getJob_setJob_ne _ _ _ _ hj] at h
      rw [reset_no_job] at h
      cases h
  polys := by
    intro p q h
    by_cases hp : p = 7
    · subst hp
      rw [show rich.getPoly 7 = some ⟨2, some [m 1, m 2], some [m 3, mNeg1]⟩ by decide +kernel] at h
      cases h
      exact ⟨by decide, by decide, by decide, by rintro v ⟨⟩; rfl, by rintro v ⟨⟩; rfl⟩
    · rw [show rich.getPoly p = State.reset.getPoly p from getPoly_setPoly_ne _ _ _ _ hp] at h
      rw [reset_no_poly] at h
      cases h
  fault_iff := by decide +kernel
  cause_le := by decide +kernel
  not_both := by decide +kernel

theorem witness_DecodeInvertsEncode : (Instr.peval 15 7 15).wf = true := by decide

theorem witness_EncodeInvertsDecode : decode (joinWords 0x0f070f65 0 0 0) = .ok (.peval 15 7 15) := by decide +kernel

theorem witness_DecodeAgreesWithTheTable : decode (joinWords 0x02010012 0 0 0) = .ok (.uadd 0 1 2) ∧
    ∃ r ∈ tableRows, joinWords 0x02010012 0 0 0 &&& r.mask = r.pattern := by
  decide +kernel

theorem witness_StepRunsTheDecodedCommand :
    (nextEvent (running (.uadd 0 1 2)) = .command ∧ decode (running (.uadd 0 1 2)).current = .ok (.uadd 0 1 2)) ∧
    ((running .nop).busy = true ∧ (running .nop).host = []) ∧
    (let s : State := { running .nop with host := [.regRead 1, .reset] };
      s.busy = true ∧ s.host = .regRead 1 :: [.reset] ∧ HostMove.regRead 1 ≠ .reset ∧ isStatusRead s.cfg (.regRead 1) = false) ∧
    ((running (.uadd 0 1 2)).current = encode (.uadd 0 1 2) ∧ (Instr.uadd 0 1 2).wf = true) := by
  decide +kernel

theorem no_opcode_five (i : Instr) : i.fields.op ≠ 5 := by
  cases i <;> simp [Instr.fields]

theorem witness_IllegalWordsFault : nextEvent (presentCommand State.reset 5) = .command ∧
    ∀ i : Instr, i.wf = true → encode i ≠ (presentCommand State.reset 5).current := by
  refine ⟨by decide +kernel, fun i _ h => ?_⟩
  have h0 := congrArg (fun c => (Fields.ofCommand c).op) h
  simp only [encode, ofCommand_toCommand] at h0
  exact no_opcode_five i (h0.trans (by decide +kernel))

theorem witness_CommandIssue :
    (let s := withMove (.regWrite 0x800 8);
      s.busy = false ∧ s.host = [.regWrite 0x800 8]) ∧
    (let s := raise ⟨.noPair, 0, 0, 0⟩ (withMove (.regWrite 0x802 8));
      s.busy = false ∧ s.fault = true ∧ s.host = [.regWrite 0x802 8]) ∧
    (let s := withMove (.regWrite 0x803 8);
      s.busy = false ∧ s.fault = false ∧ s.host = [.regWrite 0x803 8]) ∧
    (let s := raise ⟨.noPair, 0, 0, 0⟩ (withMove (.regWrite 0x803 8));
      s.busy = false ∧ s.fault = true ∧ s.host = [.regWrite 0x803 8]) ∧ (running .nop).busy = true := by
  decide +kernel

theorem witness_RegisterMap :
    csrRead State.reset 0x012 = 0 ∧ csrRead State.reset 0x01f = 0 ∧ csrRead State.reset 0x049 = 0 ∧ csrRead State.reset 0x0ff = 0 ∧
    csrRead State.reset 0x2f7 = 0 ∧ csrRead State.reset 0x2f8 = 0 ∧ csrRead State.reset 0x3ff = 0 ∧ csrRead State.reset 0x490 = 0 ∧
    csrRead State.reset (0x100 + 8 * 28 + 7) = 0x1860ef94 ∧
    ((withMove (.regRead 0x48f)).busy = false ∧ (withMove (.regRead 0x48f)).host = [.regRead 0x48f]) ∧
    ((withMove (.regWrite 0x7ff 1)).busy = false ∧ (withMove (.regWrite 0x7ff 1)).host = [.regWrite 0x7ff 1]) := by
  decide +kernel

theorem witness_BusAddresses : State.reset.cfg.WellFormed ∧ 0x803 < csrCount ∧ 1023 < State.reset.cfg.vmSize ∧
    ((withMove (.busRead (State.reset.cfg.csrBase + 4 * 0x803) 32)).busy = false ∧
      (withMove (.busRead (State.reset.cfg.csrBase + 4 * 0x803) 32)).cfg = State.reset.cfg ∧
      (withMove (.busRead (State.reset.cfg.csrBase + 4 * 0x803) 32)).host = [.busRead (State.reset.cfg.csrBase + 4 * 0x803) 32]) ∧
    (32 ≠ 32 ∨ 0x2011 % 4 ≠ 0) ∧ (16 ≠ 32 ∨ 0x2010 % 4 ≠ 0) ∧
    (0x2010 % 4 = 0 ∧ State.reset.cfg.csrBase + 4 * csrCount ≤ 0x2010 ∧ 0x2010 < State.reset.cfg.vmBase) ∧
    (0x18000 % 4 = 0 ∧ State.reset.cfg.csrBase + 4 * csrCount ≤ 0x18000 ∧
      State.reset.cfg.vmBase + 32 * State.reset.cfg.vmSize ≤ 0x18000) := by
  refine ⟨reference_wellFormed, ?_⟩
  decide +kernel

theorem witness_HostLimbsMakeASlot : [7, 0, 6, 1, 5, 2, 4, 3].Perm (List.range 8) ∧
    (let s := withMove (.memWrite 1023 7 1);
      s.busy = false ∧ s.host = [.memWrite 1023 7 1] ∧ 1023 < s.cfg.vmSize ∧ s.cfg.vmSize ≤ 1024) ∧
    (withMove (.memRead 1023 8)).host = [.memRead 1023 8] ∧ 8 ≤ 8 :=
  ⟨by decide, by decide +kernel, by decide +kernel, le_refl 8⟩

theorem witness_VectorMemoryReadsBack : Memory.wf (withVm 1020 in11).vm = true ∧ (withVm 1020 in11).vmSlot 1023 = m 4 ∧
    (1019 < 1020 ∨ 1020 + in11.length ≤ 1019) ∧ (1024 < 1020 ∨ 1020 + in11.length ≤ 1024) := by
  decide +kernel

/-- A reset during a command, on a configuration that passes the modulus check and on one that fails it. -/
theorem witness_ResetRestoresTheState :
    ({ rich with host := [.reset, .regRead 0] } : State).host = .reset :: [.regRead 0] ∧ rich.cfg.n.toNat < 2 ^ 255 ∧
    2 ^ 255 ≤ ({ Cfg.reference with n := 2 ^ 255 } : Cfg).n.toNat := by
  decide +kernel

theorem witness_FaultStaysUntilReset :
    let s := raise ⟨.noPair, 0, 0, 0⟩ (withMove (.regWrite 0x803 8))
    s.fault = true ∧ s.busy = false ∧ (∀ rest, s.host ≠ .reset :: rest) ∧ step s = .next { s with host := [] } := by
  refine ⟨by decide +kernel, by decide +kernel, ?_, rfl⟩
  rintro rest ⟨⟩

theorem witness_HostAndCoreTakeTurns :
    (rich.busy = true ∧ ∀ rest, rich.host ≠ .reset :: rest) ∧
    (∀ rest, ({ rich with host := [.memRead 0 0] } : State).host ≠ .reset :: rest) ∧
    ((∀ rest, ({ rich with host := [.regRead 0] } : State).host ≠ .reset :: rest) ∧ isStatusRead rich.cfg (.regRead 0) = true) ∧
    State.reset.busy = false ∧ State.reset.host = [] := by
  refine ⟨⟨by decide +kernel, ?_⟩, ?_, ⟨?_, by decide +kernel⟩, by decide +kernel, by decide +kernel⟩ <;> rintro rest ⟨⟩

theorem witness_FaultsAreTheListedOnes : State.reset.fault = false ∧
    exec (.froot 0 0 0) State.reset = .next (raise ⟨.rootOrder, 0, 0, 0⟩ State.reset) ∧
    (raise ⟨.rootOrder, 0, 0, 0⟩ State.reset).fault = true := ⟨by decide +kernel, rfl, rfl⟩

theorem witness_StepKeepsTheInvariant : rich.Inv ∧ ∃ t, step rich = .next t := ⟨rich_inv, _, rfl⟩

/-- A command of every kind of frame: a register and flags written, nothing written, a fault. -/
theorem witness_RegisterFlagAndResultWriters :
    (∃ t, exec (.uadd 15 1 2) rich = .next t) ∧ destReg (.uadd 15 1 2) ≠ some 14 ∧ writesZ (.uadd 15 1 2) = false ∧
    writesW (.uadd 15 1 2) = false ∧ writesRes (.uadd 15 1 2) = false ∧ writesC (.uneg 0 1) = false ∧ writesS (.ueq 0 1) = false ∧
    State.reset.fault = false ∧ look (·.fault) (exec (.froot 0 0 0) State.reset) = some true :=
  ⟨⟨_, rfl⟩, by decide, by decide, by decide, by decide, by decide, by decide, by decide +kernel, by decide +kernel⟩

theorem witness_TableWriters : (Instr.jfft 63).wf = true ∧ (∃ t, exec (.jfft 63) (withJobs [(63, job 0 in11)]) = .next t) ∧
    writesJob (.jfft 63) (withJobs [(63, job 0 in11)]) 62 = false ∧ writesPoly (.pmul 7 0 1) 6 = false ∧
    (State.reset.setRinit).rinit = true ∧ mayReadRoots (.jfree 63) = false :=
  ⟨by decide, ⟨_, rfl⟩, by decide +kernel, by decide, rfl, rfl⟩

theorem witness_MemoryFrame : rich.Inv ∧ (∃ t, exec (.ste 1 1023) rich = .next t) ∧
    storeRange (.ste 1 1023) rich = some (1023, 1) ∧ (32 * 1023 - 1 < 32 * 1023 ∨ 32 * (1023 + 1) ≤ 32 * 1023 - 1) ∧
    storeRange (.lde 1 1023) rich = none ∧ rich.fault = false ∧ look (·.fault) (exec (.ste 1 1024) rich) = some true :=
  ⟨rich_inv, ⟨_, rfl⟩, rfl, by decide, rfl, by decide +kernel, by decide +kernel⟩

/-- `R⁻¹ mod N` is V5's. -/
theorem witness_CiosComputesTheMontgomeryProduct : Cfg.reference.WellFormed ∧ (nRef - 1).toNat < Cfg.reference.n.toNat ∧
    2 ^ 256 * 0x15ebf95182c5551cc8260de4aeb85d5d090ef5a9e111ec87dc5ba0056db1194e % Cfg.reference.n.toNat = 1 :=
  ⟨reference_wellFormed, by decide +kernel, by decide +kernel⟩

theorem witness_CiosAccumulatorStaysBelowTwiceN :
    Cfg.reference.WellFormed ∧ (nRef - 1).toNat < Cfg.reference.n.toNat ∧ 8 ≤ 8 :=
  ⟨reference_wellFormed, by decide +kernel, by decide⟩

theorem witness_MonAddMonSubAreModular : Cfg.reference.WellFormed ∧ (nRef - 1).toNat < Cfg.reference.n.toNat ∧ 3 ≤ 3 ∧
    0 < Cfg.reference.n.toNat ∧ Cfg.reference.n.toNat ≤ Cfg.reference.n.toNat :=
  ⟨reference_wellFormed, by decide +kernel, by decide, by decide +kernel, by decide +kernel⟩

theorem witness_FieldLaws : Cfg.reference.WellFormed ∧ vA.toNat < Cfg.reference.n.toNat ∧ vB.toNat < Cfg.reference.n.toNat ∧
    (nRef - 1).toNat < Cfg.reference.n.toNat :=
  ⟨reference_wellFormed, by decide +kernel, by decide +kernel, by decide +kernel⟩

theorem witness_InverseUnitInverts : Cfg.reference.WellFormed ∧ (nRef - 1).toNat < Cfg.reference.n.toNat ∧ nRef - 1 ≠ 0 ∧
    28 ≤ Cfg.reference.maxLog :=
  ⟨reference_wellFormed, by decide +kernel, by decide +kernel, by decide +kernel⟩

theorem witness_RootTableIsATowerOfPrimitiveRoots : Cfg.reference.WellFormed ∧ 1 ≤ 28 ∧ 28 ≤ Cfg.reference.maxLog :=
  ⟨reference_wellFormed, by decide, by decide +kernel⟩

/-- The transforms' hypotheses: `m(1..4)`, and the longest vector the reference table has a root for. -/
theorem witness_transform_vectors : Cfg.reference.WellFormed ∧
    (2 ≤ Cfg.reference.maxLog ∧ in11.length = 2 ^ 2 ∧ allReduced Cfg.reference in11 = true) ∧
    (28 ≤ Cfg.reference.maxLog ∧ (List.replicate (2 ^ 28) (m 1)).length = 2 ^ 28 ∧
      allReduced Cfg.reference (List.replicate (2 ^ 28) (m 1)) = true) := by
  refine ⟨reference_wellFormed, by decide +kernel, by decide +kernel, List.length_replicate, ?_⟩
  have h : isReduced Cfg.reference (m 1) = true := by decide +kernel
  simp only [allReduced, List.all_eq_true, List.mem_replicate]
  rintro x ⟨-, rfl⟩
  exact h

theorem witness_RecursiveTransformIsTheTransform : Cfg.reference.WellFormed ∧
    (2 ≤ Cfg.reference.maxLog ∧ in11.length = 2 ^ 2 ∧ allReduced Cfg.reference in11 = true) :=
  ⟨reference_wellFormed, witness_transform_vectors.2.1⟩

theorem witness_IterativeTransformIsTheTransform : Cfg.reference.WellFormed ∧
    (2 ≤ Cfg.reference.maxLog ∧ in11.length = 2 ^ 2 ∧ allReduced Cfg.reference in11 = true) ∧
    (m 7).toNat < Cfg.reference.n.toNat :=
  ⟨reference_wellFormed, witness_transform_vectors.2.1, by decide +kernel⟩

theorem witness_FourStepTransformIsTheTransform : Cfg.reference.WellFormed ∧ 0 + 2 ≤ Cfg.reference.maxLog ∧
    1 + 1 ≤ Cfg.reference.maxLog ∧ in11.length = 2 ^ (1 + 1) ∧ allReduced Cfg.reference in11 = true :=
  ⟨reference_wellFormed, by decide +kernel, by decide +kernel, by decide, by decide +kernel⟩

theorem witness_InverseTransformInverts : Cfg.reference.WellFormed ∧
    (2 ≤ Cfg.reference.maxLog ∧ v11.length = 2 ^ 2 ∧ allReduced Cfg.reference v11 = true) :=
  ⟨reference_wellFormed, by decide +kernel⟩

theorem witness_PointwiseProductIsTheConvolution : Cfg.reference.WellFormed ∧ 2 + 1 ≤ Cfg.reference.maxLog ∧
    [m 1, m 2, m 3, 0].length = 2 ^ 2 ∧ [m 4, m 5, 0, 0].length = 2 ^ 2 ∧
    allReduced Cfg.reference [m 1, m 2, m 3, 0] = true ∧ allReduced Cfg.reference [m 4, m 5, 0, 0] = true :=
  ⟨reference_wellFormed, by decide +kernel⟩

theorem witness_ForkTransformMergeIsTheTransform : Cfg.reference.WellFormed ∧ 1 + 1 ≤ Cfg.reference.maxLog ∧
    (job 0x7ffffffe in11).kind = .job ∧ (job 0x7ffffffe in11).data.length = 2 ^ (1 + 1) ∧
    allReduced Cfg.reference (job 0x7ffffffe in11).data = true ∧ 2 * (job 0x7ffffffe in11).pathId.toNat + 2 < 2 ^ 32 :=
  ⟨reference_wellFormed, by decide +kernel⟩

/-- V17's leaves in the last four slots. -/
def leaves : State := withJobs [(60, job 3 [m 1]), (61, job 4 [m 3]), (62, job 5 [m 2]), (63, job 6 [m 4])]

theorem witness_JrunOnAForkTreeGivesTheTransform : leaves.cfg.WellFormed ∧ (job 0 in11).kind = .job ∧ (job 0 in11).pathId = 0 ∧
    (job 0 in11).data.length = 2 ^ 2 ∧ 2 ≤ leaves.cfg.maxLog ∧ 2 ^ 2 ≤ leaves.cfg.jMaxLen ∧ 2 ≤ 2 ∧ 60 + 2 ^ 2 ≤ 64 ∧
    allReduced leaves.cfg (job 0 in11).data = true ∧
    (∀ i, i < 2 ^ 2 → leaves.jt[60 + i]? = some (some (forkLeaf (job 0 in11) 2 (2 ^ (2 - 2)) i))) ∧
    ∀ j x, j < 60 ∨ 60 + 2 ^ 2 ≤ j → leaves.jt[j]? = some (some x) → x.jobId ≠ (job 0 in11).jobId := by
  refine ⟨reference_wellFormed, by decide +kernel, by decide +kernel, by decide +kernel, by decide +kernel, by decide +kernel,
    by decide, by decide, by decide +kernel, by decide +kernel, ?_⟩
  have hl : ∀ j, j < 60 → leaves.jt[j]? = some none := by decide +kernel
  rintro j x (h | h) hx
  · rw [hl j h] at hx
    cases hx
  · rw [Vector.getElem?_eq_none (by omega)] at hx
    cases hx

theorem witness_registers : isReg 15 = true ∧ isReg 0 = true := by decide

theorem witness_CopiesAndConstants : isReg 15 = true ∧ isReg 0 = true := witness_registers

theorem witness_IntegerAddSubtractNegate : isReg 15 = true ∧ isReg 0 = true ∧
    ((withF [(15, 2 ^ 255 - 1)]).getF 15).toNat < 2 ^ 255 ∧ ((withF []).getF 0).toNat < 2 ^ 255 := by
  decide +kernel

theorem witness_IntegerProducts : isReg 15 = true ∧ isReg 0 = true := witness_registers

theorem witness_Comparisons : isReg 15 = true ∧ isReg 0 = true := witness_registers

theorem witness_MontgomeryCommands : (withF [(15, nRef - 1), (0, vA)]).cfg.WellFormed ∧ isReg 15 = true ∧ isReg 0 = true ∧
    ((withF [(15, nRef - 1), (0, vA)]).getF 15).toNat < (withF [(15, nRef - 1), (0, vA)]).cfg.n.toNat ∧
    ((withF [(15, nRef - 1), (0, vA)]).getF 0).toNat < (withF [(15, nRef - 1), (0, vA)]).cfg.n.toNat :=
  ⟨reference_wellFormed, by decide +kernel⟩

theorem witness_FieldUnaryCommands : (withF [(15, nRef - 1), (14, nRef)]).cfg.WellFormed ∧ isReg 15 = true ∧ isReg 14 = true ∧
    ((withF [(15, nRef - 1), (14, nRef)]).getF 15).toNat < (withF [(15, nRef - 1), (14, nRef)]).cfg.n.toNat ∧
    (withF [(15, nRef - 1), (14, nRef)]).cfg.n.toNat ≤ ((withF [(15, nRef - 1), (14, nRef)]).getF 14).toNat :=
  ⟨reference_wellFormed, by decide +kernel⟩

theorem witness_RandomElements : State.reset.cfg.WellFormed ∧ isReg 15 = true ∧ State.reset.cfg = Cfg.reference :=
  ⟨reference_wellFormed, by decide, rfl⟩

/-- The largest order the reference table has, the next one, and no power of two. -/
theorem witness_RootLookup : isReg 15 = true ∧
    ((0x10000000 : Word).toNat + 2 ^ 32 * (0 : Word).toNat = 2 ^ 28 ∧ 28 ≤ State.reset.cfg.maxLog) ∧
    (∀ k, (0x20000000 : Word).toNat + 2 ^ 32 * (0 : Word).toNat = 2 ^ k → State.reset.cfg.maxLog < k) ∧
    ∀ k, (0 : Word).toNat + 2 ^ 32 * (0 : Word).toNat = 2 ^ k → State.reset.cfg.maxLog < k := by
  refine ⟨by decide, by decide +kernel, fun k h => ?_, fun k h => ?_⟩
  · have hk : k = 29 := (Nat.pow_right_injective (le_refl 2) (show 2 ^ 29 = 2 ^ k from h)).symm
    subst hk
    decide +kernel
  · exact absurd h (not_pow2 (by decide) k)

theorem witness_LoadAndStore : isReg 15 = true ∧ (1023 : Word).toNat < State.reset.cfg.vmSize ∧
    State.reset.cfg.vmSize ≤ (1024 : Word).toNat := by
  decide +kernel

/-- In place at the end of memory; the table's root and another one; every factoring; and length 1. -/
theorem witness_TransformCommands :
    let s := ((withVm 1020 in11).setF 15 root2).setF 14 (m 7)
    s.cfg.WellFormed ∧ (4 : Word).toNat = 2 ^ 2 ∧ 2 ≤ s.cfg.maxLog ∧ (1020 : Word).toNat + 2 ^ 2 ≤ s.cfg.vmSize ∧
    allReduced s.cfg (s.memRead (1020 : Word).toNat (2 ^ 2)) = true ∧ s.getF 15 = s.cfg.rootAt 2 ∧
    (s.getF 14).toNat < s.cfg.n.toNat ∧ isReg 14 = true ∧ isLog 0 = true ∧ isLog 2 = true ∧ (0 : Byte).toNat + (2 : Byte).toNat = 2 ∧
    (1 : Word).toNat = 2 ^ 0 ∧ allReduced s.cfg (s.memRead (1023 : Word).toNat (2 ^ 0)) = true :=
  ⟨reference_wellFormed, by decide +kernel⟩

theorem witness_TransformFaults : (∀ k, (6 : Word).toNat ≠ 2 ^ k) ∧ (∀ k, (0 : Word).toNat ≠ 2 ^ k) ∧
    ((0x20000000 : Word).toNat = 2 ^ 29 ∧ State.reset.cfg.maxLog < 29) ∧
    ((8 : Word).toNat = 2 ^ 3 ∧ 3 ≤ State.reset.cfg.maxLog ∧ 2 ^ (1 : Byte).toNat * 2 ^ (1 : Byte).toNat ≠ (8 : Word).toNat) ∧
    (State.reset.cfg.vmSize < (1017 : Word).toNat + 2 ^ 3 ∧ (1 : Byte).toNat + (2 : Byte).toNat = 3) ∧
    (1016 : Word).toNat + 2 ^ 3 ≤ State.reset.cfg.vmSize := by
  refine ⟨not_pow2 (by decide), not_pow2 (by decide), ?_⟩
  decide +kernel

theorem witness_UnreducedOperandsGiveFreeValues :
    let s := (withVm 1020 [m 1, nRef, m 3, m 4]).setF 15 nRef
    isReg 15 = true ∧ s.cfg.n.toNat ≤ (s.getF 15).toNat ∧ (4 : Word).toNat = 2 ^ 2 ∧ 2 ≤ s.cfg.maxLog ∧
    (1020 : Word).toNat + 2 ^ 2 ≤ s.cfg.vmSize ∧ allReduced s.cfg (s.memRead (1020 : Word).toNat (2 ^ 2)) = false ∧
    (0 : Byte).toNat + (2 : Byte).toNat = 2 := by
  decide +kernel

/-- A descriptor of degree 4 in point form and one of degree 2 in coefficient form, within their bounds. -/
theorem polys_ok : (⟨4, none, some v11⟩ : Poly).Ok Cfg.reference ∧ (coefs [m 4, m 5]).Ok Cfg.reference :=
  ⟨⟨by decide, by decide, by decide, by rintro v ⟨⟩, by rintro v ⟨⟩; rfl⟩,
    by decide, by decide, by decide, by rintro v ⟨⟩; rfl, by rintro v ⟨⟩⟩

/-- The Job and polynomial commands: an unreduced source vector, Job, pair, point form and evaluation point. -/
theorem witness_unreduced_jobs :
    let bad := [m 1, nRef, m 3, m 4]
    let s := withJobs [(0, job 0 bad)]
    let a := mergeJob 1 true [nRef]
    let b := mergeJob 1 false [m 4]
    let r := withJobs [(62, a), (63, b)]
    ((withVm 1020 bad).getJob 63 = none ∧ 2 ^ 2 ≤ (withVm 1020 bad).cfg.jMaxLen ∧
      allReduced (withVm 1020 bad).cfg ((withVm 1020 bad).memRead (1020 : Word).toNat (2 ^ 2)) = false) ∧
    (s.getJob 0 = some (job 0 bad) ∧ (job 0 bad).data.length = 2 ^ 2 ∧ allReduced s.cfg (job 0 bad).data = false ∧
      (1 : Word).toNat = 2 ^ 0 ∧ 2 = 0 + 2 ∧ (60 : JobIdx).toNat + 2 ^ 2 ≤ 64 ∧
      (∀ i, i < 2 ^ 2 → s.jt[(60 : JobIdx).toNat + i]? = some none) ∧ 2 ≤ s.cfg.maxLog ∧ (1020 : Word).toNat + 2 ^ 2 ≤ s.cfg.vmSize) ∧
    (r.getJob 62 = some a ∧ r.getJob 63 = some b ∧ pairMask a b = 0 ∧ a.data.length = 2 ^ 0 ∧ 2 * 2 ^ 0 ≤ r.cfg.jMaxLen ∧
      0 + 1 ≤ r.cfg.maxLog ∧ allReduced r.cfg a.data = false) ∧
    (s.shape = (withJobs [(0, job 0 in11)]).shape ∧ s.jt[0]? = some (some (job 0 bad)) ∧ (job 0 bad).jobId = 9) := by
  decide +kernel

theorem witness_unreduced_jrun : (∃ t, exec (.jrun 9) (withJobs [(0, job 0 [nRef])]) = .next t) ∧
    look (fun t => (t.jt[0]?.getD none).isSome) (exec (.jrun 9) (withJobs [(0, job 0 [nRef])])) = some true :=
  ⟨⟨_, rfl⟩, by decide +kernel⟩

theorem witness_unreduced_polynomials :
    let bad := [m 1, nRef, m 3, m 4]
    let p : Poly := ⟨4, none, some bad⟩
    let q := coefs [m 4, m 5]
    let s := (withPolys [(6, p), (7, q)]).setF 15 nRef
    ((withVm 1020 bad).getPoly 7 = none ∧ 2 ^ 2 ≤ (withVm 1020 bad).cfg.pMaxDeg ∧
      (1020 : Word).toNat + (3 : Word).toNat ≤ (withVm 1020 bad).cfg.vmSize ∧
      allReduced (withVm 1020 bad).cfg ((withVm 1020 bad).memRead (1020 : Word).toNat (3 : Word).toNat) = false ∧
      (3 : Word).toNat ≤ 2 ^ 2 ∧ (4 : Word).toNat = 2 ^ 2) ∧
    (s.getPoly 6 = some p ∧ s.getPoly 7 = some q ∧ s.getPoly 5 = none ∧ p.Ok s.cfg ∧ q.Ok s.cfg) ∧
    (p.degree.log2 ≤ s.cfg.maxLog ∧ allReduced s.cfg p.coefOperands = false ∧ (256 : Word).toNat = 2 ^ 8 ∧ p.degree < 2 ^ 8 ∧
      2 ^ 8 ≤ s.cfg.pMaxDeg ∧ (1020 : Word).toNat + p.degree ≤ s.cfg.vmSize ∧ s.cfg.n.toNat ≤ (s.getF 15).toNat ∧
      p.point.isSome = true ∧ allReduced s.cfg p.pointOperands = false ∧ q.coef.isSome = true ∧
      2 * max p.degree q.degree ≤ s.cfg.pMaxDeg ∧ (2 * max p.degree q.degree).log2 ≤ s.cfg.maxLog) := by
  refine ⟨by decide +kernel, ⟨by decide +kernel, by decide +kernel, by decide +kernel, ?_, polys_ok.2⟩, by decide +kernel⟩
  exact ⟨by decide, by decide, by decide, by rintro v ⟨⟩, by rintro v ⟨⟩; rfl⟩

theorem witness_JobsAreMadeAndFreed : isJob 63 = true ∧ ((withJobs [(63, job 0 in11)]).getJob 63).isSome = true ∧
    (withVm 1020 in11).getJob 63 = none ∧ (∀ k, (3 : Word).toNat ≠ 2 ^ k) ∧ (512 : Word).toNat = 2 ^ 9 ∧
    (withVm 1020 in11).cfg.jMaxLen < 2 ^ 9 ∧ 2 ^ 2 ≤ (withVm 1020 in11).cfg.jMaxLen ∧
    (withVm 1020 in11).cfg.vmSize < (1021 : Word).toNat + 2 ^ 2 ∧ (1020 : Word).toNat + 2 ^ 2 ≤ (withVm 1020 in11).cfg.vmSize ∧
    allReduced (withVm 1020 in11).cfg ((withVm 1020 in11).memRead (1020 : Word).toNat (2 ^ 2)) = true := by
  refine ⟨by decide, by decide +kernel, by decide +kernel, not_pow2 (by decide), ?_⟩
  decide +kernel

/-- V19's states: no Job, a leaf size that is too large or no power of two, slots past the table, a node number past 32
bits, an occupied destination; and V17's fork, of leaves of size 1 into the last four slots. -/
theorem witness_JforkWritesTheLeaves : isJob 60 = true ∧ isJob 0 = true ∧
    (∀ e, State.reset.getJob 0 = some e → e.kind = .mergeJob) ∧
    (withJobs [(0, job 0 in11)]).getJob 0 = some (job 0 in11) ∧ (job 0 in11).data.length = 2 ^ 2 ∧
    (∀ g, (8 : Word).toNat = 2 ^ g → 2 < g) ∧ (∀ g, (3 : Word).toNat = 2 ^ g → 2 < g) ∧
    ((1 : Word).toNat = 2 ^ 0 ∧ 2 = 0 + 2 ∧ 64 < (61 : JobIdx).toNat + 2 ^ 2 ∧ (60 : JobIdx).toNat + 2 ^ 2 ≤ 64) ∧
    2 ^ 32 ≤ ((job 0x7fffffff [m 1, m 2]).pathId.toNat + 1) * 2 ^ 1 + 2 ^ 1 - 2 ∧
    ((job 0 in11).pathId.toNat + 1) * 2 ^ 2 + 2 ^ 2 - 2 < 2 ^ 32 ∧
    ((withJobs [(0, job 0 in11), (63, job 0 in11)]).jt[(60 : JobIdx).toNat + 3]?.getD none).isSome = true ∧
    (∀ i, i < 3 → (withJobs [(0, job 0 in11), (63, job 0 in11)]).jt[(60 : JobIdx).toNat + i]? = some none) ∧
    (∀ i, i < 2 ^ 2 → (withJobs [(0, job 0 in11)]).jt[(60 : JobIdx).toNat + i]? = some none) ∧
    allReduced (withJobs [(0, job 0 in11)]).cfg (job 0 in11).data = true := by
  refine ⟨by decide, by decide, fun e h => ?_, by decide +kernel, by decide +kernel, fun g h => ?_, fun g h => ?_, ?_⟩
  · rw [reset_no_job] at h
    cases h
  · have hg : g = 3 := (Nat.pow_right_injective (le_refl 2) (show 2 ^ 3 = 2 ^ g from h)).symm
    omega
  · exact absurd h (not_pow2 (by decide) g)
  · decide +kernel

theorem witness_JfftConsumesAJob : isJob 63 = true ∧ (∀ e, State.reset.getJob 63 = some e → e.kind = .mergeJob) ∧
    (withJobs [(63, job 0 in11)]).getJob 63 = some (job 0 in11) ∧ (job 0 in11).kind = .job ∧ (job 0 in11).data.length = 2 ^ 2 ∧
    (onTiny (withJobs [(63, job 0 in11)])).cfg.maxLog < 2 ∧ (withJobs [(63, job 0 in11)]).cfg.WellFormed ∧
    2 ≤ (withJobs [(63, job 0 in11)]).cfg.maxLog ∧ allReduced (withJobs [(63, job 0 in11)]).cfg (job 0 in11).data = true := by
  refine ⟨by decide, fun e h => ?_, by decide +kernel, by decide, by decide, by decide +kernel, reference_wellFormed, ?_⟩
  · rw [reset_no_job] at h
    cases h
  · decide +kernel

/-- Two mergeable MergeJobs, one that differs in everything, two of the longest length, and a table without their root. -/
theorem witness_JmergeMergesAPair :
    let a := mergeJob 1 true [m 6, mNeg2]
    let b := mergeJob 1 false [m 4, mNeg2]
    let s := withJobs [(62, a), (63, b)]
    let long := mergeJob 1 true (List.replicate 256 0)
    isJob 62 = true ∧ isJob 63 = true ∧ (∀ e, State.reset.getJob 62 = some e → e.kind = .job) ∧ s.getJob 62 = some a ∧
    a.kind = .mergeJob ∧ (∀ e, (withJobs [(62, a)]).getJob 63 = some e → e.kind = .job) ∧ s.getJob 63 = some b ∧
    b.kind = .mergeJob ∧ a.jobId = b.jobId ∧ a.pathId = b.pathId ∧ a.side ≠ b.side ∧ a.data.length = b.data.length ∧
    a.data.length = 2 ^ 1 ∧ 2 * a.data.length ≤ s.cfg.jMaxLen ∧ s.cfg.jMaxLen < 2 * long.data.length ∧
    (onTiny s).cfg.maxLog < 1 + 1 ∧ s.cfg.WellFormed ∧ 1 + 1 ≤ s.cfg.maxLog ∧ allReduced s.cfg a.data = true ∧
    allReduced s.cfg b.data = true := by
  refine ⟨by decide, by decide, fun e h => ?_, by decide +kernel, by decide, fun e h => ?_, by decide +kernel, by decide, by decide,
    by decide, by decide, by decide, by decide, by decide +kernel, by decide +kernel, by decide +kernel, reference_wellFormed, ?_⟩
  · rw [reset_no_job] at h
    cases h
  · rw [show (withJobs [(62, mergeJob 1 true [m 6, mNeg2])]).getJob 63 = none by decide +kernel] at h
    cases h
  · decide +kernel

/-- Two pairs in the table. -/
def pairs : State :=
  withJobs [(1, mergeJob 1 false [m 1]), (2, mergeJob 1 true [m 3]), (3, mergeJob 2 false [m 2]), (63, mergeJob 2 true [m 4])]

/-- No pair among two. -/
def strays : State := withJobs [(1, mergeJob 1 false [m 1]), (63, mergeJob 2 true [m 3])]

theorem strays_no_pair (i j : Nat) : ¬ isPair strays 9 i j := by
  rintro ⟨h1, h2, h3, h4, a, b, h5, h6, h7, h8⟩
  have hs : ∀ k, k < 64 → isMergeSlot strays 9 k = true → k = 1 ∨ k = 63 := by decide +kernel
  obtain rfl | rfl := hs i (by omega) h3 <;> obtain rfl | rfl := hs j h2 h4 <;> try omega
  rw [show strays.jt[1]?.getD none = some (mergeJob 1 false [m 1]) by decide +kernel] at h5
  rw [show strays.jt[63]?.getD none = some (mergeJob 2 true [m 3]) by decide +kernel] at h6
  cases h5
  cases h6
  revert h7
  decide

theorem no_merge_no_pair (s : State) (id : Word) (h : ∀ j, isMergeSlot s id j = false) (i j : Nat) : ¬ isPair s id i j := by
  rintro ⟨-, -, h3, -⟩
  simp [h i] at h3

theorem witness_JfindReportsTheLeastPair :
    (isPair pairs 9 1 2 ∧ ∀ i' j', isPair pairs 9 i' j' → 1 < i' ∨ 1 = i' ∧ 2 ≤ j') ∧
    ((∀ i j, ¬ isPair State.reset 9 i j) ∧ mergeCount State.reset 9 ≤ 1) ∧
    ((∀ i j, ¬ isPair strays 9 i j) ∧ 1 < mergeCount strays 9) := by
  refine ⟨⟨⟨by decide, by decide, by decide +kernel, by decide +kernel, mergeJob 1 false [m 1], mergeJob 1 true [m 3],
    by decide +kernel, by decide +kernel, by decide, by decide⟩, ?_⟩, ⟨?_, by decide +kernel⟩, strays_no_pair, by decide +kernel⟩
  · rintro i j ⟨h1, h2, h3, -⟩
    have hs : ∀ k, k < 64 → isMergeSlot pairs 9 k = true → 1 ≤ k := by decide +kernel
    have := hs i (by omega) h3
    omega
  · refine no_merge_no_pair _ _ fun j => ?_
    by_cases hj : j < 64
    · revert j
      decide +kernel
    · simp [isMergeSlot, Vector.getElem?_eq_none (show 64 ≤ j by omega)]

theorem witness_JobEntriesAreReadOut :
    let s := withJobs [(63, mergeJob 0 false v11)]
    isJob 63 = true ∧ State.reset.getJob 63 = none ∧ s.getJob 63 = some (mergeJob 0 false v11) ∧
    (mergeJob 0 false v11).data.length = 2 ^ 2 ∧ s.cfg.vmSize < (1021 : Word).toNat + 2 ^ 2 ∧
    (1020 : Word).toNat + 2 ^ 2 ≤ s.cfg.vmSize ∧ allReduced s.cfg (mergeJob 0 false v11).data = true ∧
    (∀ j, isJobSlot s 9 j = false) ∧ (∀ j, isMergeSlot s 8 j = false) ∧
    s.jt[63]?.getD none = some (mergeJob 0 false v11) ∧ ∀ j, isMergeSlot s 9 j = true ↔ j = 63 := by
  refine ⟨by decide, by decide +kernel, by decide +kernel, by decide, by decide +kernel, by decide +kernel, by decide +kernel,
    fun j => ?_, fun j => ?_, by decide +kernel, fun j => ?_⟩
  all_goals
    by_cases hj : j < 64
    · revert j
      decide +kernel
    · simp [isMergeSlot, isJobSlot, Vector.getElem?_eq_none (show 64 ≤ j by omega)]
      try omega

theorem tree_reduced (s : State) (id : Word)
    (h : ∀ j, j < 64 → ((s.jt[j]?.getD none).all fun e => allReduced s.cfg e.data) = true) (j : Nat) (e : JobEntry)
    (he : s.jt[j]?.getD none = some e) (_ : e.jobId = id) : allReduced s.cfg e.data = true := by
  by_cases hj : j < 64
  · simpa [he] using h j hj
  · simp [Vector.getElem?_eq_none (show 64 ≤ j by omega)] at he

/-- A Job that fits the root table of `MAXLOG = 1`, and one that does not. -/
def jobsOnTiny : State := onTiny (withJobs [(62, job 0 [m 1, m 2]), (63, job 0 in11)])

theorem witness_JrunRootOrder : isJobSlot jobsOnTiny 9 63 = true ∧ jobsOnTiny.jt[63]?.getD none = some (job 0 in11) ∧
    jobsOnTiny.cfg.maxLog < (job 0 in11).data.length.log2 ∧
    ∀ j' e', j' < 63 → isJobSlot jobsOnTiny 9 j' = true → jobsOnTiny.jt[j']?.getD none = some e' →
      e'.data.length.log2 ≤ jobsOnTiny.cfg.maxLog := by
  refine ⟨by decide +kernel, by decide +kernel, by decide +kernel, fun j' e' h1 h2 h3 => ?_⟩
  have hs : ∀ k, k < 63 → isJobSlot jobsOnTiny 9 k = true → k = 62 := by decide +kernel
  obtain rfl := hs j' h1 h2
  rw [show jobsOnTiny.jt[62]?.getD none = some (job 0 [m 1, m 2]) by decide +kernel] at h3
  cases h3
  decide +kernel

/-- The first step of `JRUN` on V17's leaves. -/
theorem witness_JrunFirstTransform : isJobSlot leaves 9 60 = true ∧ (∀ j', j' < 60 → isJobSlot leaves 9 j' = false) ∧
    leaves.cfg.WellFormed ∧
    (∀ (j : Nat) (e : JobEntry), leaves.jt[j]?.getD none = some e → e.jobId = 9 → allReduced leaves.cfg e.data = true) ∧
    look (·.cseq) (exec (.jfft (BitVec.ofNat 8 60)) leaves) = some (leaves.cseq + 1) :=
  ⟨by decide +kernel, by decide +kernel, reference_wellFormed, tree_reduced _ _ (by decide +kernel), by decide +kernel⟩

/-- A state with two MergeJobs of V17's `job_id` that are a pair. -/
def onePair (v w : List U256) : State := withJobs [(1, mergeJob 1 false v), (63, mergeJob 1 true w)]

theorem least_of_two {s : State} {id : Word} {i j : Nat} (hs : ∀ k, k < 64 → isMergeSlot s id k = true → k = i ∨ k = j) (hij : i < j)
    (i' j' : Nat) (h : isPair s id i' j') : i < i' ∨ i = i' ∧ j ≤ j' := by
  obtain ⟨h1, h2, h3, h4, -⟩ := h
  have := hs i' (by omega) h3
  have := hs j' h2 h4
  omega

theorem isMergeSlot_of {s : State} {id : Word} {j : Nat} {e : JobEntry} (h : s.jt[j]?.getD none = some e) (hm : e.kind = .mergeJob)
    (hi : e.jobId = id) : isMergeSlot s id j = true := by
  unfold isMergeSlot
  rw [h]
  simp [hm, hi]

theorem onePair_least (v w : List U256) (c : Cfg) :
    isPair { onePair v w with cfg := c } 9 1 63 ∧
    ∀ i' j', isPair { onePair v w with cfg := c } 9 i' j' → 1 < i' ∨ 1 = i' ∧ 63 ≤ j' := by
  have h1 : (onePair v w).jt[1]?.getD none = some (mergeJob 1 false v) := rfl
  have h2 : (onePair v w).jt[63]?.getD none = some (mergeJob 1 true w) := rfl
  refine ⟨⟨by decide, by decide, isMergeSlot_of h1 rfl rfl, isMergeSlot_of h2 rfl rfl, _, _, h1, h2,
    rfl, by simp [mergeJob]⟩, least_of_two ?_ (by decide)⟩
  intro k hk h
  by_contra hne
  have hn : (onePair v w).jt[k]? = (State.reset).jt[k]? := by
    simp only [onePair, withJobs, List.foldl, State.setJob]
    rw [Vector.getElem?_setIfInBounds_ne (by simp; omega), Vector.getElem?_setIfInBounds_ne (by simp; omega)]
  have hr : State.reset.jt[k]? = some none := by simp [State.reset, State.powerOn, hk]
  simp [isMergeSlot, hn, hr] at h

/-- A pair of unequal lengths, one of the longest length, one above a root table, and one that merges. -/
theorem witness_JrunPairs :
    [m 1].length ≠ in11.length ∧ (onePair [m 1] in11).jt[1]?.getD none = some (mergeJob 1 false [m 1]) ∧
    (onePair [m 1] in11).jt[63]?.getD none = some (mergeJob 1 true in11) ∧
    (onePair [m 1] in11).cfg.jMaxLen < 2 * (List.replicate 256 (m 1)).length ∧
    (2 * [m 1, m 2].length ≤ tiny.jMaxLen ∧ tiny.maxLog < (2 * [m 1, m 2].length).log2) ∧
    (∀ j, j < 64 → isJobSlot (onePair [m 1] [m 2]) 9 j = false) ∧ (∀ j, j < 64 → isJobSlot strays 9 j = false) ∧
    look (·.cseq) (exec (.jmerge (BitVec.ofNat 8 1) (BitVec.ofNat 8 63)) (onePair [m 1] [m 2])) = some 1 := by
  decide +kernel

theorem witness_PolynomialsAreMadeAndFreed :
    let s := withVm 1020 in11
    isPoly 7 = true ∧ s.getPoly 7 = none ∧ (withPolys [(7, coefs in11)]).getPoly 7 = some (coefs in11) ∧
    ((3 : Word).toNat ≤ 2 ^ 2 ∧ ∀ k, (3 : Word).toNat ≤ 2 ^ k → 2 ≤ k) ∧ ((0 : Word).toNat ≤ 2 ^ 0 ∧ ∀ k, (0 : Word).toNat ≤ 2 ^ k → 0 ≤ k) ∧
    ((257 : Word).toNat ≤ 2 ^ 9 ∧ s.cfg.pMaxDeg < 2 ^ 9) ∧ 2 ^ 2 ≤ s.cfg.pMaxDeg ∧ s.cfg.vmSize < (1022 : Word).toNat + (3 : Word).toNat ∧
    (1020 : Word).toNat + (3 : Word).toNat ≤ s.cfg.vmSize ∧
    allReduced s.cfg (s.memRead (1020 : Word).toNat (3 : Word).toNat) = true ∧ (∀ k, (3 : Word).toNat ≠ 2 ^ k) ∧
    ((4 : Word).toNat = 2 ^ 2 ∧ (512 : Word).toNat = 2 ^ 9 ∧ s.cfg.vmSize < (1021 : Word).toNat + 2 ^ 2) ∧
    allReduced s.cfg (s.memRead (1020 : Word).toNat (2 ^ 2)) = true := by
  refine ⟨by decide, by decide +kernel, by decide +kernel, ⟨by decide, fun k h => ?_⟩, ⟨by decide, fun k _ => Nat.zero_le k⟩,
    by decide +kernel, by decide +kernel, by decide +kernel, by decide +kernel, by decide +kernel, not_pow2 (by decide), ?_⟩
  · by_contra hk
    have : k = 0 ∨ k = 1 := by omega
    rcases this with rfl | rfl <;> exact absurd h (by decide)
  · decide +kernel

theorem witness_PolynomialFormsAreForced :
    let p : Poly := ⟨4, none, some v11⟩
    let s := withPolys [(7, p), (6, coefs in11)]
    isPoly 7 = true ∧ s.getPoly 5 = none ∧ s.getPoly 7 = some p ∧ p.degree = 2 ^ 2 ∧ (∀ k, (2 : Word).toNat = 2 ^ k → k < 2) ∧
    (∀ k, (6 : Word).toNat = 2 ^ k → k < 2) ∧ ((512 : Word).toNat = 2 ^ 9 ∧ s.cfg.pMaxDeg < 2 ^ 9) ∧
    ((4 : Word).toNat = 2 ^ 2 ∧ 2 ^ 2 ≤ s.cfg.pMaxDeg) ∧
    ((256 : Word).toNat = 2 ^ 8 ∧ 2 ^ 8 ≤ s.cfg.pMaxDeg ∧ p.coef = none ∧ (onTiny s).cfg.maxLog < 2) ∧
    (2 ≤ s.cfg.maxLog ∧ allReduced s.cfg p.coefOperands = true ∧ (coefs in11).coef.isSome = true ∧ p.point.isSome = true) ∧
    ((coefs in11).point = none ∧ (coefs in11).degree = 2 ^ 2 ∧ s.getPoly 6 = some (coefs in11)) ∧ s.cfg.WellFormed ∧
    v11.length = 2 ^ 2 ∧ allReduced s.cfg v11 = true ∧ p.point = some v11 ∧ in11.length = 2 ^ 2 ∧ allReduced s.cfg in11 = true := by
  refine ⟨by decide, by decide +kernel, by decide +kernel, by decide, fun k h => ?_, fun k h => absurd h (not_pow2 (by decide) k),
    by decide +kernel, by decide +kernel, by decide +kernel, by decide +kernel, by decide +kernel, reference_wellFormed, ?_⟩
  · have hk : k = 1 := (Nat.pow_right_injective (le_refl 2) (show 2 ^ 1 = 2 ^ k from h)).symm
    omega
  · decide +kernel

theorem witness_PaddAddsInPlace :
    let p : Poly := ⟨4, none, some v11⟩
    let q := coefs [m 4, m 5]
    let s := withPolys [(6, p), (7, q)]
    isPoly 7 = true ∧ s.getPoly 5 = none ∧ s.getPoly 6 = some p ∧ s.getPoly 7 = some q ∧
    ((4 : PolyIdx) ≠ 6 ∧ (4 : PolyIdx) ≠ 7 ∧ ((withPolys [(4, q), (6, p), (7, q)]).getPoly 4).isSome = true) ∧
    (p.coef = none ∧ (onTiny s).cfg.maxLog < p.degree.log2) ∧ (q.coef.isSome = true ∧ p.degree.log2 ≤ s.cfg.maxLog) ∧
    p.Ok s.cfg ∧ q.Ok s.cfg ∧ allReduced s.cfg p.coefOperands = true ∧ allReduced s.cfg q.coefOperands = true := by
  refine ⟨by decide, by decide +kernel, by decide +kernel, by decide +kernel, by decide +kernel, by decide +kernel,
    by decide +kernel, polys_ok.1, polys_ok.2, ?_⟩
  decide +kernel

theorem witness_PmulMultipliesPolynomials :
    let p : Poly := ⟨4, none, some v11⟩
    let q := coefs [m 4, m 5]
    let s := withPolys [(6, p), (7, q)]
    isPoly 7 = true ∧ s.getPoly 5 = none ∧ s.getPoly 6 = some p ∧ s.getPoly 7 = some q ∧
    ((4 : PolyIdx) ≠ 6 ∧ (4 : PolyIdx) ≠ 7 ∧ ((withPolys [(4, q), (6, p), (7, q)]).getPoly 4).isSome = true) ∧
    2 * max p.degree q.degree = 2 ^ 3 ∧ ({ Cfg.reference with pMaxDeg := 4 } : Cfg).pMaxDeg < 2 ^ 3 ∧
    (2 ^ 3 ≤ (onTiny s).cfg.pMaxDeg ∧ (onTiny s).cfg.maxLog < 3) ∧ s.cfg.WellFormed ∧ 2 ^ 3 ≤ s.cfg.pMaxDeg ∧ 3 ≤ s.cfg.maxLog ∧
    p.Ok s.cfg ∧ q.Ok s.cfg ∧ allReduced s.cfg p.coefOperands = true ∧ allReduced s.cfg q.coefOperands = true := by
  refine ⟨by decide, by decide +kernel, by decide +kernel, by decide +kernel, by decide +kernel, by decide, by decide,
    by decide +kernel, reference_wellFormed, by decide +kernel, by decide +kernel, polys_ok.1, polys_ok.2, ?_⟩
  decide +kernel

theorem witness_PolynomialsAreEvaluatedAndReadOut :
    let p : Poly := ⟨4, none, some v11⟩
    let s := (withPolys [(7, p)]).setF 15 (m 7)
    isReg 15 = true ∧ isPoly 7 = true ∧ s.getPoly 6 = none ∧ s.getPoly 7 = some p ∧ p.Ok s.cfg ∧
    (p.coef = none ∧ (onTiny s).cfg.maxLog < p.degree.log2) ∧
    ((coefs in11).point = none ∧ (onTiny s).cfg.maxLog < (coefs in11).degree.log2) ∧
    s.cfg.vmSize < (1021 : Word).toNat + p.degree ∧ s.cfg.WellFormed ∧ ¬ s.cfg.maxLog < p.degree.log2 ∧
    allReduced s.cfg p.coefOperands = true ∧ allReduced s.cfg p.pointOperands = true ∧ (s.getF 15).toNat < s.cfg.n.toNat ∧
    (1020 : Word).toNat + p.degree ≤ s.cfg.vmSize := by
  refine ⟨by decide, by decide, by decide +kernel, by decide +kernel, polys_ok.1, by decide +kernel, by decide +kernel,
    by decide +kernel, reference_wellFormed, ?_⟩
  decide +kernel

theorem witness_PolynomialFormsStayEqual :
    let s := rich.memWrite 0 in11
    rich.cfg.WellFormed ∧ rich.Inv ∧ rich.PolysFaithful ∧ createsReduced (.pnew 0 1020 4) rich ∧ createsReduced (.pmul 0 7 7) s ∧
    ∃ t, exec (.pnew 0 1020 4) rich = .next t := by
  refine ⟨reference_wellFormed, rich_inv, ?_, by unfold createsReduced; decide +kernel, trivial, _, rfl⟩
  intro p q h
  by_cases hp : p = 7
  · subst hp
    rw [show rich.getPoly 7 = some ⟨2, some [m 1, m 2], some [m 3, mNeg1]⟩ by decide +kernel] at h
    cases h
    exact ⟨by rintro v ⟨⟩; decide +kernel, by rintro v ⟨⟩; decide +kernel, by rintro u v ⟨⟩ ⟨⟩; decide +kernel⟩
  · rw [show rich.getPoly p = State.reset.getPoly p from getPoly_setPoly_ne _ _ _ _ hp] at h
    rw [reset_no_poly] at h
    cases h

theorem witness_FieldCommandsKeepRegistersReduced : (withF [(15, nRef - 1)]).cfg.WellFormed ∧
    (withF [(15, nRef - 1)]).RegistersReduced ∧ isFieldCommand (.monpro 0 15 15) = true ∧ isFieldCommand (.fisz 15) = true ∧
    ∃ t, exec (.monpro 0 15 15) (withF [(15, nRef - 1)]) = .next t := by
  refine ⟨reference_wellFormed, ?_, by decide, by decide, _, rfl⟩
  unfold State.RegistersReduced
  decide +kernel

end Sys2Proof.Tests
end

section
/-! The Montgomery engine on reduced operands: `MonPro`, `MonAdd` and `MonSub` stay in `[0, N)` and denote the product,
the sum and the difference of the field (41_montgomery.md R151 to R159). -/

namespace Sys2Proof.Proofs

open Sys2Proof.Machine Sys2Proof.Laws

/-! Passes over limbs (R136, R152) -/

@[simp] theorem macPass_length : ∀ ts xs b c, ts.length = xs.length → (macPass ts xs b c).1.length = ts.length
  | [], _, _, _, _ => rfl
  | t :: ts, x :: xs, b, c, h => by
    simp [macPass, macPass_length ts xs b _ (by simpa using h)]

/-- A pass adds `x · b + c` to the number of its limbs; the carry is the overflow. -/
theorem macPass_value : ∀ ts xs b c, ts.length = xs.length →
    natOfLimbs (macPass ts xs b c).1 + 2 ^ (32 * ts.length) * (macPass ts xs b c).2 =
      natOfLimbs ts + natOfLimbs xs * b + c
  | [], [], b, c, _ => by simp [macPass, natOfLimbs]
  | t :: ts, x :: xs, b, c, h => by
    have ih := macPass_value ts xs b ((t + x * b + c) / 2 ^ 32) (by simpa using h)
    have hdiv := Nat.mod_add_div (t + x * b + c) (2 ^ 32)
    simp only [macPass, natOfLimbs, List.length_cons]
    rw [show 32 * (ts.length + 1) = 32 + 32 * ts.length by ring, pow_add]
    linear_combination hdiv + 2 ^ 32 * ih

theorem macPass_limb_lt : ∀ ts xs b c, ∀ l ∈ (macPass ts xs b c).1, l < 2 ^ 32
  | [], _, _, _, l, h => by simp [macPass] at h
  | _ :: _, [], _, _, l, h => by simp [macPass] at h
  | t :: ts, x :: xs, b, c, l, h => by
    rcases List.mem_cons.1 h with rfl | h
    · exact Nat.mod_lt _ (by norm_num)
    · exact macPass_limb_lt ts xs b _ l h

/-- The lowest limb of a pass. -/
theorem macPass_headD : ∀ ts xs b, ts.length = xs.length →
    (macPass ts xs b 0).1.headD 0 = (ts.headD 0 + xs.headD 0 * b) % 2 ^ 32
  | [], [], _, _ => by simp [macPass]
  | _ :: _, _ :: _, _, _ => by simp [macPass]

theorem natOfLimbs_append : ∀ ls l, natOfLimbs (ls ++ [l]) = natOfLimbs ls + 2 ^ (32 * ls.length) * l
  | [], l => by simp [natOfLimbs]
  | m :: ls, l => by
    simp only [List.cons_append, natOfLimbs, natOfLimbs_append ls l, List.length_cons]
    rw [show 32 * (ls.length + 1) = 32 + 32 * ls.length by ring, pow_add]
    ring

/-- A nonempty number is its lowest limb and the rest. -/
theorem natOfLimbs_headD_tail (ls : List Nat) : natOfLimbs ls = ls.headD 0 + 2 ^ 32 * natOfLimbs ls.tail := by
  cases ls <;> rfl

theorem natOfLimbs_extract (v k : Nat) :
    natOfLimbs ((List.range k).map fun i => v / 2 ^ (32 * i) % 2 ^ 32) = v % 2 ^ (32 * k) := by
  induction k with
  | zero => simp [natOfLimbs, Nat.mod_one]
  | succ k ih =>
    rw [List.range_succ, List.map_append, List.map_cons, List.map_nil, natOfLimbs_append, ih, List.length_map,
      List.length_range, show 32 * (k + 1) = 32 * k + 32 by ring, pow_add, Nat.mod_mul]

theorem limb_toNat (v : U256) (i : Nat) : (limb v i).toNat = v.toNat / 2 ^ (32 * i) % 2 ^ 32 := by
  simp [limb, Nat.shiftRight_eq_div_pow]

@[simp] theorem limbsOf_length (v : U256) : (limbsOf v).length = 8 := by simp [limbsOf]

theorem limbsOf_lt (v : U256) : ∀ l ∈ limbsOf v, l < 2 ^ 32 := by
  intro l hl
  obtain ⟨i, -, rfl⟩ := List.mem_map.1 hl
  exact (limb v i).isLt

/-- The limbs of a value make the value. -/
@[simp] theorem natOfLimbs_limbsOf (v : U256) : natOfLimbs (limbsOf v) = v.toNat := by
  have h : limbsOf v = (List.range 8).map fun i => v.toNat / 2 ^ (32 * i) % 2 ^ 32 :=
    List.map_congr_left fun i _ => limb_toNat v i
  rw [h, natOfLimbs_extract]
  exact Nat.mod_eq_of_lt v.isLt

/-! The CIOS rounds (R152 to R156) -/

theorem cioAccumulate_value (al : List Nat) (t : Acc) (bi : Nat) (ht : t.low.length = 8) (ha : al.length = 8) :
    (cioAccumulate al t bi).value = t.value + natOfLimbs al * bi := by
  have h := macPass_value t.low al bi 0 (by rw [ht, ha])
  rw [ht] at h
  simp only [cioAccumulate, Acc.value]
  linear_combination h

theorem cioAccumulate_length (al : List Nat) (t : Acc) (bi : Nat) (ht : t.low.length = 8) (ha : al.length = 8) :
    (cioAccumulate al t bi).low.length = 8 := by
  simp [cioAccumulate, ht, ha]

/-- The quotient limb clears the lowest limb of the sum. -/
theorem cioQuotient_clears {c : Cfg} (hc : c.WellFormed) (t : Acc) :
    (t.low.headD 0 + (limbsOf c.n).headD 0 * cioQuotient c t) % 2 ^ 32 = 0 := by
  have hn : (limbsOf c.n).headD 0 = c.n.toNat % 2 ^ 32 := by
    have : (limbsOf c.n).headD 0 = (limb c.n 0).toNat := rfl
    rw [this, limb_toNat]
    simp
  have hinv : c.n.toNat * c.ninv0.toNat + 1 ≡ 0 [MOD 2 ^ 32] := hc.ninv0
  set t0 := t.low.headD 0
  have key : t0 + c.n.toNat % 2 ^ 32 * (t0 * c.ninv0.toNat % 2 ^ 32) ≡ 0 [MOD 2 ^ 32] :=
    calc t0 + c.n.toNat % 2 ^ 32 * (t0 * c.ninv0.toNat % 2 ^ 32)
        ≡ t0 + c.n.toNat * (t0 * c.ninv0.toNat) [MOD 2 ^ 32] :=
          ((Nat.mod_modEq _ _).mul (Nat.mod_modEq _ _)).add_left _
      _ = t0 * (c.n.toNat * c.ninv0.toNat + 1) := by ring
      _ ≡ t0 * 0 [MOD 2 ^ 32] := Nat.ModEq.mul_left _ hinv
      _ = 0 := by ring
  rw [hn]
  exact key

theorem cioReduce_value {c : Cfg} (hc : c.WellFormed) (t : Acc) (ht : t.low.length = 8) :
    2 ^ 32 * (cioReduce c t).value = t.value + c.n.toNat * cioQuotient c t := by
  have hlen : t.low.length = (limbsOf c.n).length := by simp [ht]
  have hval := macPass_value t.low (limbsOf c.n) (cioQuotient c t) 0 hlen
  have hsplit := natOfLimbs_headD_tail (macPass t.low (limbsOf c.n) (cioQuotient c t) 0).1
  rw [macPass_headD _ _ _ hlen, cioQuotient_clears hc] at hsplit
  have hmod := Nat.mod_add_div (t.top + (macPass t.low (limbsOf c.n) (cioQuotient c t) 0).2) (2 ^ 32)
  have hmlen := macPass_length t.low (limbsOf c.n) (cioQuotient c t) 0 hlen
  rw [ht, natOfLimbs_limbsOf] at hval
  simp only [cioReduce, Acc.value, natOfLimbs_append, List.length_tail, hmlen, ht]
  linear_combination hval - hsplit + 2 ^ 256 * hmod

theorem cioReduce_length (c : Cfg) (t : Acc) (ht : t.low.length = 8) : (cioReduce c t).low.length = 8 := by
  simp [cioReduce, ht]

theorem cioQuotient_lt (c : Cfg) (t : Acc) : cioQuotient c t < 2 ^ 32 := Nat.mod_lt _ (by norm_num)

theorem cioRound_length (c : Cfg) (a : U256) (t : Acc) (bi : Nat) (ht : t.low.length = 8) :
    (cioRound c (limbsOf a) t bi).low.length = 8 :=
  cioReduce_length _ _ (cioAccumulate_length _ _ _ ht (limbsOf_length a))

/-- One round divides `t + a · b[i] + m · N` by `2^32`, exactly, for a limb `m`. -/
theorem cioRound_value {c : Cfg} (hc : c.WellFormed) (a : U256) (t : Acc) (bi : Nat) (ht : t.low.length = 8) :
    ∃ m, m < 2 ^ 32 ∧ 2 ^ 32 * (cioRound c (limbsOf a) t bi).value = t.value + a.toNat * bi + c.n.toNat * m := by
  have hl := cioAccumulate_length (limbsOf a) t bi ht (limbsOf_length a)
  refine ⟨_, cioQuotient_lt c (cioAccumulate (limbsOf a) t bi), ?_⟩
  rw [cioRound, cioReduce_value hc _ hl, cioAccumulate_value _ _ _ ht (limbsOf_length a), natOfLimbs_limbsOf]

/-- Rounds over limbs of `b` from an accumulator below `2N`: the result stays below `2N` (R154), and times `2^(32·rounds)` it
is the accumulator plus `a · b`, up to a multiple of `N`. -/
theorem cioRounds_spec {c : Cfg} (hc : c.WellFormed) (a : U256) (ha : a.toNat < c.n.toNat) :
    ∀ (bs : List Nat) (t : Acc), (∀ b ∈ bs, b < 2 ^ 32) → t.low.length = 8 → t.value < 2 * c.n.toNat →
      (bs.foldl (cioRound c (limbsOf a)) t).low.length = 8 ∧
      (bs.foldl (cioRound c (limbsOf a)) t).value < 2 * c.n.toNat ∧
      ∃ m, 2 ^ (32 * bs.length) * (bs.foldl (cioRound c (limbsOf a)) t).value =
        t.value + a.toNat * natOfLimbs bs + c.n.toNat * m
  | [], t, _, ht, hv => ⟨ht, hv, 0, by simp [natOfLimbs]⟩
  | b :: bs, t, hb, ht, hv => by
    obtain ⟨m, hm, hround⟩ := cioRound_value hc a t b ht
    have hlt : (cioRound c (limbsOf a) t b).value < 2 * c.n.toNat := by
      have h1 : a.toNat * b ≤ c.n.toNat * (2 ^ 32 - 1) :=
        Nat.mul_le_mul ha.le (Nat.le_sub_one_of_lt (hb b (by simp)))
      have h2 : c.n.toNat * m ≤ c.n.toNat * (2 ^ 32 - 1) := Nat.mul_le_mul_left _ (Nat.le_sub_one_of_lt hm)
      omega
    obtain ⟨hlen, hbound, m', hm'⟩ :=
      cioRounds_spec hc a ha bs _ (fun x hx => hb x (by simp [hx])) (cioRound_length c a t b ht) hlt
    refine ⟨hlen, hbound, m + 2 ^ 32 * m', ?_⟩
    rw [List.foldl_cons, List.length_cons, show 32 * (bs.length + 1) = 32 + 32 * bs.length by ring, pow_add, mul_assoc,
      hm', natOfLimbs]
    linear_combination hround

@[simp] theorem Acc_zero_value : Acc.zero.value = 0 := by decide

/-- The accumulator after the 8 rounds (R154, R156). -/
theorem cios_spec {c : Cfg} (hc : c.WellFormed) (a b : U256) (ha : a.toNat < c.n.toNat) :
    (cios c a b).value < 2 * c.n.toNat ∧ ∃ m, 2 ^ 256 * (cios c a b).value = a.toNat * b.toNat + c.n.toNat * m := by
  have hpos := hc.prime.pos
  obtain ⟨-, hlt, m, hm⟩ := cioRounds_spec hc a ha (limbsOf b) Acc.zero (limbsOf_lt b) rfl (by simp; omega)
  refine ⟨hlt, m, ?_⟩
  simpa [cios] using hm

/-! Reduced elements, and what they denote -/

theorem isReduced_iff (c : Cfg) (v : U256) : isReduced c v = true ↔ v.toNat < c.n.toNat := by simp [isReduced]

theorem allReduced_iff (c : Cfg) (vs : List U256) : allReduced c vs = true ↔ ∀ v ∈ vs, v.toNat < c.n.toNat := by
  simp [allReduced, isReduced]

/-- `MonPro` with a reduced first operand is reduced and divides the product by `2^256` modulo `N` (R151, R155). -/
theorem monPro_spec {c : Cfg} (hc : c.WellFormed) {a : U256} (ha : a.toNat < c.n.toNat) (b : U256) :
    (monPro c a b).toNat < c.n.toNat ∧ 2 ^ 256 * (monPro c a b).toNat ≡ a.toNat * b.toNat [MOD c.n.toNat] := by
  obtain ⟨hlt, m, hm⟩ := cios_spec hc a b ha
  have hn := hc.lt
  have hmod : 2 ^ 256 * (cios c a b).value ≡ a.toNat * b.toNat [MOD c.n.toNat] := by
    rw [hm]
    exact Nat.modEq_iff_dvd.2 ⟨-(m : ℤ), by push_cast; ring⟩
  by_cases hge : c.n.toNat ≤ (cios c a b).value
  · have hval : (monPro c a b).toNat = (cios c a b).value - c.n.toNat := by
      rw [monPro, if_pos hge, BitVec.toNat_ofNat, Nat.mod_eq_of_lt (by omega)]
    rw [hval]
    refine ⟨by omega, Nat.ModEq.trans (Nat.ModEq.mul_left _ ?_) hmod⟩
    exact Nat.modEq_iff_dvd.2 ⟨1, by push_cast [hge]; ring⟩
  · have hval : (monPro c a b).toNat = (cios c a b).value := by
      rw [monPro, if_neg hge, BitVec.toNat_ofNat, Nat.mod_eq_of_lt (by omega)]
    rw [hval]
    exact ⟨by omega, hmod⟩

theorem monPro_lt {c : Cfg} (hc : c.WellFormed) {a : U256} (ha : a.toNat < c.n.toNat) (b : U256) :
    (monPro c a b).toNat < c.n.toNat := (monPro_spec hc ha b).1

/-- `2^256` is invertible modulo the odd prime `N`. -/
theorem two_pow_ne_zero {c : Cfg} (hc : c.WellFormed) (k : Nat) : ((2 ^ k : Nat) : ZMod c.n.toNat) ≠ 0 := by
  intro h
  have hdvd := hc.prime.dvd_of_dvd_pow ((ZMod.natCast_eq_zero_iff _ _).1 h)
  have hle := Nat.le_of_dvd (by norm_num) hdvd
  have htwo := hc.prime.two_le
  have hodd := hc.odd
  omega

theorem denote_monPro {c : Cfg} (hc : c.WellFormed) {a : U256} (ha : a.toNat < c.n.toNat) (b : U256) :
    c.denote (monPro c a b) = c.denote a * c.denote b := by
  have : Fact c.n.toNat.Prime := ⟨hc.prime⟩
  have hR := two_pow_ne_zero hc 256
  have h := (ZMod.natCast_eq_natCast_iff _ _ _).2 (monPro_spec hc ha b).2
  simp only [Cfg.denote]
  generalize hRdef : ((2 ^ 256 : Nat) : ZMod c.n.toNat) = R at *
  rw [Nat.cast_mul, Nat.cast_mul, hRdef] at h
  field_simp
  linear_combination h

/-- Reduced elements that denote the same are the same. -/
theorem eq_of_denote_eq {c : Cfg} (hc : c.WellFormed) {a b : U256} (ha : a.toNat < c.n.toNat) (hb : b.toNat < c.n.toNat)
    (h : c.denote a = c.denote b) : a = b := by
  have : Fact c.n.toNat.Prime := ⟨hc.prime⟩
  have hcast := mul_right_cancel₀ (inv_ne_zero (two_pow_ne_zero hc 256)) h
  have hmod := (ZMod.natCast_eq_natCast_iff' _ _ _).1 hcast
  rw [Nat.mod_eq_of_lt ha, Nat.mod_eq_of_lt hb] at hmod
  exact BitVec.eq_of_toNat_eq hmod

theorem zero_lt_modulus {c : Cfg} (hc : c.WellFormed) : (0 : U256).toNat < c.n.toNat := by simpa using hc.prime.pos

theorem oneM_lt {c : Cfg} (hc : c.WellFormed) : c.oneM.toNat < c.n.toNat := by
  rw [hc.oneM]
  exact Nat.mod_lt _ hc.prime.pos

theorem denote_oneM {c : Cfg} (hc : c.WellFormed) : c.denote c.oneM = 1 := by
  have : Fact c.n.toNat.Prime := ⟨hc.prime⟩
  rw [Cfg.denote, hc.oneM, ZMod.natCast_mod]
  exact mul_inv_cancel₀ (two_pow_ne_zero hc 256)

/-! `MonAdd` and `MonSub` (R157, R159) -/

/-- The bit the corrections look at. -/
theorem topBit_eq (v : U256) : v.getLsbD 255 = decide (2 ^ 255 ≤ v.toNat) :=
  (BitVec.msb_eq_getLsbD_last v).symm.trans (BitVec.msb_eq_decide v)

/-- Below `2^255` the correction of `MonAdd` subtracts `N` once where the sum reaches it. -/
theorem monAdd_toNat {c : Cfg} (hc : c.WellFormed) {a b : U256} (ha : a.toNat < c.n.toNat) (hb : b.toNat < c.n.toNat) :
    (monAdd c a b).toNat = if c.n.toNat ≤ a.toNat + b.toNat then a.toNat + b.toNat - c.n.toNat else a.toNat + b.toNat := by
  have hn := hc.lt
  have hneg := hc.negN
  have hs : (a + b).toNat = a.toNat + b.toNat := by rw [BitVec.toNat_add, Nat.mod_eq_of_lt (by omega)]
  have hu : (a + b + c.negN).toNat = (a.toNat + b.toNat + (2 ^ 256 - c.n.toNat)) % 2 ^ 256 := by
    rw [BitVec.toNat_add, hs, hneg]
  simp only [monAdd, topBit_eq, decide_eq_true_eq]
  split_ifs <;> omega

theorem monAdd_lt {c : Cfg} (hc : c.WellFormed) {a b : U256} (ha : a.toNat < c.n.toNat) (hb : b.toNat < c.n.toNat) :
    (monAdd c a b).toNat < c.n.toNat := by
  rw [monAdd_toNat hc ha hb]
  split_ifs <;> omega

theorem denote_monAdd {c : Cfg} (hc : c.WellFormed) {a b : U256} (ha : a.toNat < c.n.toNat) (hb : b.toNat < c.n.toNat) :
    c.denote (monAdd c a b) = c.denote a + c.denote b := by
  simp only [Cfg.denote, monAdd_toNat hc ha hb, ← add_mul]
  split_ifs with h
  · simp [Nat.cast_sub h]
  · simp

theorem monSub_toNat {c : Cfg} (hc : c.WellFormed) {a b : U256} (ha : a.toNat < c.n.toNat) (hb : b.toNat < c.n.toNat) :
    (monSub c a b).toNat = if b.toNat ≤ a.toNat then a.toNat - b.toNat else a.toNat + c.n.toNat - b.toNat := by
  have hn := hc.lt
  have hd : (a - b).toNat = (2 ^ 256 - b.toNat + a.toNat) % 2 ^ 256 := by rw [BitVec.toNat_sub]
  simp only [monSub, topBit_eq, decide_eq_true_eq, apply_ite BitVec.toNat, BitVec.toNat_add, hd]
  split_ifs <;> omega

theorem monSub_lt {c : Cfg} (hc : c.WellFormed) {a b : U256} (ha : a.toNat < c.n.toNat) (hb : b.toNat < c.n.toNat) :
    (monSub c a b).toNat < c.n.toNat := by
  rw [monSub_toNat hc ha hb]
  split_ifs <;> omega

theorem denote_monSub {c : Cfg} (hc : c.WellFormed) {a b : U256} (ha : a.toNat < c.n.toNat) (hb : b.toNat < c.n.toNat) :
    c.denote (monSub c a b) = c.denote a - c.denote b := by
  simp only [Cfg.denote, monSub_toNat hc ha hb, ← sub_mul]
  split_ifs with h
  · rw [Nat.cast_sub h]
  · rw [Nat.cast_sub (by omega)]
    simp

end Sys2Proof.Proofs
end

section
/-! Powers of field elements, the root table and the inverse unit (10_state.md R35; 42_field_element.md R177, R178). -/

namespace Sys2Proof.Proofs

open Sys2Proof.Machine Sys2Proof.Laws

/-! Powers and the root table (10_state.md R35, 43_fft.md R203) -/

theorem fieldPowFuel_spec {c : Cfg} (hc : c.WellFormed) : ∀ fuel (x : U256) e, x.toNat < c.n.toNat → e < 2 ^ fuel →
    (fieldPowFuel c fuel x e).toNat < c.n.toNat ∧ c.denote (fieldPowFuel c fuel x e) = c.denote x ^ e
  | 0, x, e, _, he => by
    have : e = 0 := by omega
    simp [fieldPowFuel, this, oneM_lt hc, denote_oneM hc]
  | fuel + 1, x, e, hx, he => by
    obtain ⟨hlt, hden⟩ := fieldPowFuel_spec hc fuel (monPro c x x) (e / 2) (monPro_lt hc hx x) (by omega)
    rw [denote_monPro hc hx, ← pow_two, ← pow_mul] at hden
    have hsplit := Nat.div_add_mod e 2
    unfold fieldPowFuel
    split_ifs with h0 h1
    · simp [h0, oneM_lt hc, denote_oneM hc]
    · refine ⟨monPro_lt hc hx _, ?_⟩
      rw [denote_monPro hc hx, hden, ← pow_succ']
      congr 1
      omega
    · refine ⟨hlt, ?_⟩
      rw [hden]
      congr 1
      omega

theorem fieldPow_lt {c : Cfg} (hc : c.WellFormed) {x : U256} (hx : x.toNat < c.n.toNat) (e : Nat) :
    (fieldPow c x e).toNat < c.n.toNat := (fieldPowFuel_spec hc _ x e hx Nat.lt_log2_self).1

theorem denote_fieldPow {c : Cfg} (hc : c.WellFormed) {x : U256} (hx : x.toNat < c.n.toNat) (e : Nat) :
    c.denote (fieldPow c x e) = c.denote x ^ e := (fieldPowFuel_spec hc _ x e hx Nat.lt_log2_self).2

/-- R35(d): each entry denotes the square of the next. -/
theorem denote_root_sq {c : Cfg} (hc : c.WellFormed) {k : Nat} (hk : k < c.maxLog) :
    c.denote (c.rootAt (k + 1)) ^ 2 = c.denote (c.rootAt k) := by
  have : Fact c.n.toNat.Prime := ⟨hc.prime⟩
  have hR := two_pow_ne_zero hc 256
  have h := (ZMod.natCast_eq_natCast_iff' _ _ _).2 (hc.root_tower k hk)
  simp only [Cfg.denote]
  generalize hRdef : ((2 ^ 256 : Nat) : ZMod c.n.toNat) = R at *
  rw [Nat.cast_mul, Nat.cast_mul, hRdef] at h
  field_simp
  linear_combination -h

theorem denote_root_one {c : Cfg} (hc : c.WellFormed) : c.denote (c.rootAt 1) = -1 := by
  have h1 := denote_oneM hc
  rw [Cfg.denote] at h1
  rw [Cfg.denote, hc.root_one, Nat.cast_sub (oneM_lt hc).le, sub_mul, h1]
  simp

/-- R35(b): half the order of an entry gives minus one. -/
theorem denote_root_half {c : Cfg} (hc : c.WellFormed) : ∀ k, k + 1 ≤ c.maxLog →
    c.denote (c.rootAt (k + 1)) ^ 2 ^ k = -1
  | 0, _ => by simpa using denote_root_one hc
  | k + 1, hk => by
    rw [pow_succ', pow_mul, denote_root_sq hc (by omega)]
    exact denote_root_half hc k (by omega)

/-- R35(a): the order of entry `k` divides `2^k`. -/
theorem denote_root_pow {c : Cfg} (hc : c.WellFormed) : ∀ k, k ≤ c.maxLog → c.denote (c.rootAt k) ^ 2 ^ k = 1
  | 0, _ => by simp [hc.root_zero, denote_oneM hc]
  | k + 1, hk => by rw [pow_succ, pow_mul, denote_root_half hc k hk]; ring

/-- Minus one is not one in the field of an odd prime. -/
theorem neg_one_ne_one {c : Cfg} (hc : c.WellFormed) : (-1 : ZMod c.n.toNat) ≠ 1 := by
  have : Fact c.n.toNat.Prime := ⟨hc.prime⟩
  have : Fact (2 < c.n.toNat) := ⟨by have := hc.odd; have := hc.prime.two_le; omega⟩
  exact ZMod.neg_one_ne_one

/-- Entry `k` denotes a primitive `2^k`-th root of unity. -/
theorem root_isPrimitiveRoot {c : Cfg} (hc : c.WellFormed) : ∀ k, k ≤ c.maxLog →
    IsPrimitiveRoot (c.denote (c.rootAt k)) (2 ^ k)
  | 0, _ => by simp [hc.root_zero, denote_oneM hc]
  | k + 1, hk => by
    rw [IsPrimitiveRoot.iff_orderOf]
    refine orderOf_eq_prime_pow ?_ (denote_root_pow hc (k + 1) hk)
    rw [denote_root_half hc k hk]
    exact neg_one_ne_one hc

/-- Settles O28: both sides of each clause are reduced, and denote the same field element. -/
theorem rootTableIsATowerOfPrimitiveRoots : Obligations.RootTableIsATowerOfPrimitiveRoots := by
  intro c hc
  refine ⟨hc.root_zero, fun k hk => ?_, fun k h1 hk => ?_, fun k h1 hk => ?_⟩
  · refine eq_of_denote_eq hc (fieldPow_lt hc (hc.root_lt k hk) _) (oneM_lt hc) ?_
    rw [denote_fieldPow hc (hc.root_lt k hk), denote_root_pow hc k hk, denote_oneM hc]
  · obtain ⟨j, rfl⟩ := Nat.exists_eq_add_of_le' h1
    have heq : fieldPow c (c.rootAt (j + 1)) (2 ^ (j + 1 - 1)) = c.rootAt 1 := by
      refine eq_of_denote_eq hc (fieldPow_lt hc (hc.root_lt _ hk) _) (hc.root_lt 1 (by omega)) ?_
      rw [denote_fieldPow hc (hc.root_lt _ hk), Nat.add_sub_cancel, denote_root_half hc j hk, denote_root_one hc]
    rw [heq, hc.root_one]
  · obtain ⟨j, rfl⟩ := Nat.exists_eq_add_of_le' h1
    have hlt := hc.root_lt _ hk
    refine eq_of_denote_eq hc (hc.root_lt j (by omega)) (monPro_lt hc hlt _) ?_
    rw [denote_monPro hc hlt, ← pow_two, denote_root_sq hc (by omega), Nat.add_sub_cancel]

/-! The inverse unit (42_field_element.md R178, 43_fft.md R212) -/

theorem modInverse_toNat {c : Cfg} (hc : c.WellFormed) (a : Nat) :
    (modInverse c a).toNat = a ^ (c.n.toNat - 2) % c.n.toNat := by
  have hpos := hc.prime.pos
  have hn := hc.lt
  rw [modInverse, powMod_spec _ _ _ _ Nat.lt_log2_self, BitVec.toNat_ofNat, ← Nat.pow_mod]
  exact Nat.mod_eq_of_lt (lt_trans (Nat.mod_lt _ hpos) (by omega))

theorem modInverse_lt {c : Cfg} (hc : c.WellFormed) (a : Nat) : (modInverse c a).toNat < c.n.toNat := by
  rw [modInverse_toNat hc]
  exact Nat.mod_lt _ hc.prime.pos

/-- Fermat's little theorem: the power `N - 2` is the inverse. -/
theorem modInverse_cast {c : Cfg} (hc : c.WellFormed) {a : Nat} (ha : (a : ZMod c.n.toNat) ≠ 0) :
    ((modInverse c a).toNat : ZMod c.n.toNat) = (a : ZMod c.n.toNat)⁻¹ := by
  have : Fact c.n.toNat.Prime := ⟨hc.prime⟩
  have htwo := hc.prime.two_le
  rw [modInverse_toNat hc, ZMod.natCast_mod, Nat.cast_pow]
  refine eq_inv_of_mul_eq_one_left ?_
  rw [← pow_succ, show c.n.toNat - 2 + 1 = c.n.toNat - 1 by omega]
  exact ZMod.pow_card_sub_one_eq_one ha

/-- The constant `R2` denotes `2^256`. -/
theorem denote_r2 {c : Cfg} (hc : c.WellFormed) : c.denote c.r2 = ((2 ^ 256 : Nat) : ZMod c.n.toNat) := by
  have : Fact c.n.toNat.Prime := ⟨hc.prime⟩
  have hR := two_pow_ne_zero hc 256
  rw [Cfg.denote, hc.r2, ZMod.natCast_mod, show (2 ^ 512 : Nat) = 2 ^ 256 * 2 ^ 256 by rw [← pow_add], Nat.cast_mul]
  exact mul_inv_cancel_right₀ hR _

theorem lengthInverse_lt {c : Cfg} (hc : c.WellFormed) (n : Nat) : (lengthInverse c n).toNat < c.n.toNat :=
  monPro_lt hc (modInverse_lt hc n) _

theorem denote_lengthInverse {c : Cfg} (hc : c.WellFormed) {n : Nat} (hn : (n : ZMod c.n.toNat) ≠ 0) :
    c.denote (lengthInverse c n) = (n : ZMod c.n.toNat)⁻¹ := by
  have : Fact c.n.toNat.Prime := ⟨hc.prime⟩
  rw [lengthInverse, denote_monPro hc (modInverse_lt hc n), denote_r2 hc, Cfg.denote, modInverse_cast hc hn]
  exact inv_mul_cancel_right₀ (two_pow_ne_zero hc 256) _

theorem fieldInverse_lt {c : Cfg} (hc : c.WellFormed) (a : U256) : (fieldInverse c a).toNat < c.n.toNat := by
  unfold fieldInverse
  split_ifs
  · exact zero_lt_modulus hc
  · exact monPro_lt hc (modInverse_lt hc _) _

end Sys2Proof.Proofs
end

section
/-! The recursive transform evaluates a vector at the powers of the root, and undoes the inverse transform
(43_fft.md R203, R204, R212, R214). -/

namespace Sys2Proof.Proofs

open Sys2Proof.Machine Sys2Proof.Laws

/-! Reduced vectors -/

section
variable {c : Cfg}

theorem allReduced_append {u v : List U256} :
    allReduced c (u ++ v) = true ↔ allReduced c u = true ∧ allReduced c v = true := by
  simp [allReduced]

theorem allReduced_zeros (hc : c.WellFormed) (n : Nat) : allReduced c (List.replicate n 0) = true := by
  rw [allReduced_iff]
  intro v hv
  rw [List.eq_of_mem_replicate hv]
  exact zero_lt_modulus hc

theorem allReduced_getD (hc : c.WellFormed) {v : List U256} (h : allReduced c v = true) (i : Nat) :
    (v.getD i 0).toNat < c.n.toNat := by
  rw [List.getD_eq_getElem?_getD]
  cases hi : v[i]? with
  | none => exact zero_lt_modulus hc
  | some x => exact (allReduced_iff c v).1 h x (List.mem_of_getElem? hi)

/-- A binary operation that answers reduced elements for elements of two vectors makes a reduced vector. -/
theorem allReduced_zipWith {f : U256 → U256 → U256} {u v : List U256}
    (h : ∀ a ∈ u, ∀ b ∈ v, (f a b).toNat < c.n.toNat) : allReduced c (List.zipWith f u v) = true := by
  rw [allReduced_iff]
  intro x hx
  obtain ⟨i, hi, rfl⟩ := List.mem_iff_getElem.1 hx
  rw [List.getElem_zipWith]
  exact h _ (List.getElem_mem _) _ (List.getElem_mem _)

theorem allReduced_evens_odds : ∀ v : List U256, allReduced c v = true →
    allReduced c (evens v) = true ∧ allReduced c (odds v) = true
  | [], _ => ⟨rfl, rfl⟩
  | [a], h => ⟨h, rfl⟩
  | a :: b :: v, h => by
    have ih := allReduced_evens_odds v
    simp only [allReduced, List.all_cons, Bool.and_eq_true, evens, odds] at h ih ⊢
    obtain ⟨ha, hb, hv⟩ := h
    exact ⟨⟨ha, (ih hv).1⟩, hb, (ih hv).2⟩

theorem powersFrom_allReduced (hc : c.WellFormed) (w : U256) : ∀ count (p : U256), p.toNat < c.n.toNat →
    allReduced c (powersFrom c w count p) = true
  | 0, _, _ => rfl
  | count + 1, p, hp => by
    have ih := powersFrom_allReduced hc w count _ (monPro_lt hc hp w)
    simp only [allReduced, powersFrom, List.all_cons, Bool.and_eq_true]
    exact ⟨(isReduced_iff c p).2 hp, ih⟩

/-- The second halves of the butterflies, `w^i · y1[i]`. -/
def twiddled (c : Cfg) (w : U256) (y : List U256) : List U256 :=
  List.zipWith (monPro c) (powersFrom c w y.length c.oneM) y

theorem combine_eq (w : U256) (y0 y1 : List U256) : combine c w y0 y1 =
    List.zipWith (monAdd c) y0 (twiddled c w y1) ++ List.zipWith (monSub c) y0 (twiddled c w y1) := rfl

@[simp] theorem twiddled_length (w : U256) (y : List U256) : (twiddled c w y).length = y.length := by simp [twiddled]

theorem twiddled_allReduced (hc : c.WellFormed) (w : U256) (y : List U256) : allReduced c (twiddled c w y) = true :=
  allReduced_zipWith fun a ha b _ =>
    monPro_lt hc ((allReduced_iff c _).1 (powersFrom_allReduced hc w _ _ (oneM_lt hc)) a ha) b

/-- Butterflies keep vectors reduced, whatever the root. -/
theorem combine_allReduced (hc : c.WellFormed) (w : U256) {y0 y1 : List U256} (h0 : allReduced c y0 = true) :
    allReduced c (combine c w y0 y1) = true := by
  have ht := (allReduced_iff c _).1 (twiddled_allReduced hc w y1)
  rw [allReduced_iff] at h0
  rw [combine_eq, allReduced_append]
  exact ⟨allReduced_zipWith fun a ha b hb => monAdd_lt hc (h0 a ha) (ht b hb),
    allReduced_zipWith fun a ha b hb => monSub_lt hc (h0 a ha) (ht b hb)⟩

theorem recFft_allReduced (hc : c.WellFormed) : ∀ k v, allReduced c v = true → allReduced c (recFft c k v) = true
  | 0, _, h => h
  | k + 1, v, h => combine_allReduced hc _ (recFft_allReduced hc k _ (allReduced_evens_odds v h).1)

/-- The inverse transform is reduced, whatever its operand. -/
theorem invFft_allReduced (hc : c.WellFormed) (k : Nat) (v : List U256) : allReduced c (invFft c k v) = true := by
  rw [allReduced_iff]
  intro x hx
  obtain ⟨j, -, rfl⟩ := List.mem_map.1 hx
  exact monPro_lt hc (lengthInverse_lt hc _) _

/-! The transform evaluates -/

/-- The value at `x` of the polynomial whose coefficients a vector denotes. -/
def evalAt (c : Cfg) (x : ZMod c.n.toNat) (v : List U256) : ZMod c.n.toNat :=
  v.foldr (fun a acc => c.denote a + x * acc) 0

/-- The value at `x` from the even and the odd half, at `x²`. -/
theorem evalAt_evens_odds (x : ZMod c.n.toNat) : ∀ v : List U256,
    evalAt c x v = evalAt c (x ^ 2) (evens v) + x * evalAt c (x ^ 2) (odds v)
  | [] => by simp [evalAt, evens, odds]
  | [a] => by simp [evalAt, evens, odds]
  | a :: b :: v => by
    have ih := evalAt_evens_odds x v
    simp only [evalAt, evens, odds, List.foldr_cons] at ih ⊢
    rw [ih]
    ring

theorem evalAt_eq_sum (x : ZMod c.n.toNat) : ∀ v : List U256,
    evalAt c x v = ∑ j ∈ Finset.range v.length, c.denote (v.getD j 0) * x ^ j
  | [] => rfl
  | a :: v => by
    have ih := evalAt_eq_sum x v
    simp only [evalAt, List.foldr_cons, List.length_cons, Finset.sum_range_succ'] at ih ⊢
    rw [ih, Finset.mul_sum, add_comm]
    simp only [List.getD_cons_succ, List.getD_cons_zero, pow_zero, mul_one]
    congr 1
    exact Finset.sum_congr rfl fun j _ => by ring

theorem powersFrom_getD (hc : c.WellFormed) (w : U256) : ∀ count (p : U256) i, p.toNat < c.n.toNat → i < count →
    c.denote ((powersFrom c w count p).getD i 0) = c.denote p * c.denote w ^ i
  | 0, _, _, _, h => absurd h (Nat.not_lt_zero _)
  | count + 1, p, 0, _, _ => by simp [powersFrom]
  | count + 1, p, i + 1, hp, hi => by
    rw [powersFrom, List.getD_cons_succ, powersFrom_getD hc w count _ i (monPro_lt hc hp w) (by omega),
      denote_monPro hc hp]
    ring

theorem zipWith_getD (f : U256 → U256 → U256) {u v : List U256} {i : Nat} (hu : i < u.length) (hv : i < v.length) :
    (List.zipWith f u v).getD i 0 = f (u.getD i 0) (v.getD i 0) := by
  simp [List.getD_eq_getElem?_getD, hu, hv]

theorem twiddled_getD (hc : c.WellFormed) (w : U256) {y : List U256} {i : Nat} (hi : i < y.length) :
    c.denote ((twiddled c w y).getD i 0) = c.denote w ^ i * c.denote (y.getD i 0) := by
  have hp := powersFrom_allReduced hc w y.length c.oneM (oneM_lt hc)
  rw [twiddled, zipWith_getD _ (by simpa using hi) hi, denote_monPro hc (allReduced_getD hc hp i),
    powersFrom_getD hc w _ _ i (oneM_lt hc) hi, denote_oneM hc, one_mul]

/-- The two outputs of butterfly `i` of a block of size `2h`. -/
theorem combine_getD (hc : c.WellFormed) (w : U256) {y0 y1 : List U256} {h i : Nat} (h0 : y0.length = h)
    (h1 : y1.length = h) (hr : allReduced c y0 = true) (hi : i < h) :
    c.denote ((combine c w y0 y1).getD i 0) = c.denote (y0.getD i 0) + c.denote w ^ i * c.denote (y1.getD i 0) ∧
    c.denote ((combine c w y0 y1).getD (h + i) 0) =
      c.denote (y0.getD i 0) - c.denote w ^ i * c.denote (y1.getD i 0) := by
  have hlen : ∀ f : U256 → U256 → U256, (List.zipWith f y0 (twiddled c w y1)).length = h := by simp [h0, h1]
  have hy := allReduced_getD hc hr i
  have ht := allReduced_getD hc (twiddled_allReduced hc w y1) i
  rw [combine_eq, List.getD_append _ _ _ _ (by rw [hlen]; exact hi),
    List.getD_append_right _ _ _ _ (by rw [hlen]; omega), hlen, Nat.add_sub_cancel_left,
    zipWith_getD _ (by omega) (by rw [twiddled_length]; omega), zipWith_getD _ (by omega) (by rw [twiddled_length]; omega),
    denote_monAdd hc hy ht, denote_monSub hc hy ht, twiddled_getD hc w (by omega)]
  exact ⟨rfl, rfl⟩

/-- Element `i` of the recursive transform is the value at the `i`-th power of the root (R204). -/
theorem denote_recFft (hc : c.WellFormed) : ∀ k (v : List U256), k ≤ c.maxLog → v.length = 2 ^ k → allReduced c v = true →
    ∀ i, i < 2 ^ k → c.denote ((recFft c k v).getD i 0) = evalAt c (c.denote (c.rootAt k) ^ i) v
  | 0, v, _, hv, _, i, hi => by
    obtain ⟨a, rfl⟩ := List.length_eq_one_iff.1 (by simpa using hv)
    have : i = 0 := by simpa using hi
    simp [recFft, evalAt, this]
  | k + 1, v, hk, hv, hr, i, hi => by
    obtain ⟨he, ho⟩ := halves_length hv
    obtain ⟨hre, hro⟩ := allReduced_evens_odds v hr
    have ihe := denote_recFft hc k (evens v) (by omega) he hre
    have iho := denote_recFft hc k (odds v) (by omega) ho hro
    have butterfly : ∀ j, j < 2 ^ k → _ := fun j hj => combine_getD hc (c.rootAt (k + 1)) (recFft_length c k _ he)
      (recFft_length c k _ ho) (recFft_allReduced hc k _ hre) hj
    have hsq := denote_root_sq hc (show k < c.maxLog by omega)
    rw [recFft, evalAt_evens_odds, ← pow_mul, mul_comm i 2, pow_mul, hsq]
    rw [pow_succ] at hi
    rcases Nat.lt_or_ge i (2 ^ k) with hlow | hhigh
    · rw [(butterfly i hlow).1, ihe i hlow, iho i hlow]
    · obtain ⟨j, rfl⟩ := Nat.exists_eq_add_of_le hhigh
      have hj : j < 2 ^ k := by omega
      rw [(butterfly j hj).2, ihe j hj, iho j hj, pow_add, pow_add, denote_root_half hc k hk, denote_root_pow hc k (by omega),
        one_mul]
      ring

/-! The inverse transform -/

/-- Orthogonality: the powers of an `n`-th root of unity other than 1 sum to zero. -/
theorem sum_powers_eq_ite {F : Type} [Field F] [DecidableEq F] {n : Nat} {z : F} (hz : z ^ n = 1) :
    ∑ j ∈ Finset.range n, z ^ j = if z = 1 then (n : F) else 0 := by
  split_ifs with h
  · simp [h]
  · have hg := geom_sum_mul z n
    rw [hz, sub_self] at hg
    exact (mul_eq_zero.1 hg).resolve_right (sub_ne_zero.2 h)

/-- For a primitive `n`-th root `w`: the values at `w^0, ..., w^(n-1)`, taken backwards and divided by `n`, are the
coefficients of a vector whose value at `w^i` is the coefficient `i`. -/
theorem inverse_sum {F : Type} [Field F] {n : Nat} {w : F} (hw : IsPrimitiveRoot w n) (hn : (n : F) ≠ 0)
    (a : Nat → F) {i : Nat} (hi : i < n) :
    ∑ j ∈ Finset.range n, (n : F)⁻¹ * (∑ l ∈ Finset.range n, a l * (w ^ ((n - j) % n)) ^ l) * (w ^ i) ^ j = a i := by
  classical
  have hw0 : w ≠ 0 := hw.ne_zero (by omega)
  have hback : ∀ j ∈ Finset.range n, w ^ ((n - j) % n) = (w ^ j)⁻¹ := by
    intro j hj
    have hj := Finset.mem_range.1 hj
    rw [← pow_mod_orderOf, ← hw.eq_orderOf, Nat.mod_mod, hw.eq_orderOf, pow_mod_orderOf, ← hw.eq_orderOf]
    refine eq_inv_of_mul_eq_one_left ?_
    rw [← pow_add, Nat.sub_add_cancel hj.le, hw.pow_eq_one]
  have hterm : ∀ j ∈ Finset.range n,
      (n : F)⁻¹ * (∑ l ∈ Finset.range n, a l * (w ^ ((n - j) % n)) ^ l) * (w ^ i) ^ j =
        ∑ l ∈ Finset.range n, (n : F)⁻¹ * a l * (w ^ i * (w ^ l)⁻¹) ^ j := by
    intro j hj
    rw [hback j hj, mul_assoc, Finset.sum_mul, Finset.mul_sum]
    refine Finset.sum_congr rfl fun l _ => ?_
    rw [mul_pow, inv_pow, inv_pow, ← pow_mul, ← pow_mul, mul_comm j l]
    ring
  have hunit : ∀ l, (w ^ i * (w ^ l)⁻¹) ^ n = 1 := by
    intro l
    rw [mul_pow, inv_pow, ← pow_mul, ← pow_mul, mul_comm i, mul_comm l, pow_mul, pow_mul, hw.pow_eq_one]
    simp
  have hone : ∀ l ∈ Finset.range n, (w ^ i * (w ^ l)⁻¹ = 1 ↔ l = i) := by
    intro l hl
    rw [mul_inv_eq_one₀ (pow_ne_zero _ hw0)]
    exact ⟨fun h => (hw.pow_inj hi (Finset.mem_range.1 hl) h).symm, fun h => by rw [h]⟩
  calc ∑ j ∈ Finset.range n, (n : F)⁻¹ * (∑ l ∈ Finset.range n, a l * (w ^ ((n - j) % n)) ^ l) * (w ^ i) ^ j
      = ∑ j ∈ Finset.range n, ∑ l ∈ Finset.range n, (n : F)⁻¹ * a l * (w ^ i * (w ^ l)⁻¹) ^ j :=
        Finset.sum_congr rfl hterm
    _ = ∑ l ∈ Finset.range n, (n : F)⁻¹ * a l * ∑ j ∈ Finset.range n, (w ^ i * (w ^ l)⁻¹) ^ j := by
        rw [Finset.sum_comm]
        exact Finset.sum_congr rfl fun l _ => (Finset.mul_sum _ _ _).symm
    _ = ∑ l ∈ Finset.range n, if l = i then (n : F)⁻¹ * a l * n else 0 := by
        refine Finset.sum_congr rfl fun l hl => ?_
        rw [sum_powers_eq_ite (hunit l)]
        simp only [hone l hl, mul_ite, mul_zero]
    _ = a i := by
        rw [Finset.sum_ite_eq' , if_pos (Finset.mem_range.2 hi)]
        field_simp

/-- The transform undoes the inverse transform on reduced vectors (R214). -/
theorem recFft_invFft (hc : c.WellFormed) {k : Nat} {v : List U256} (hk : k ≤ c.maxLog) (hv : v.length = 2 ^ k)
    (hr : allReduced c v = true) : recFft c k (invFft c k v) = v := by
  have : Fact c.n.toNat.Prime := ⟨hc.prime⟩
  have hn := two_pow_ne_zero hc k
  have hri := invFft_allReduced hc k v
  have hli : (invFft c k v).length = 2 ^ k := invFft_length c k v
  have hlr := recFft_length c k _ hli
  have hcoef : ∀ j, j < 2 ^ k → c.denote ((invFft c k v).getD j 0) = ((2 ^ k : Nat) : ZMod c.n.toNat)⁻¹ *
      ∑ l ∈ Finset.range (2 ^ k), c.denote (v.getD l 0) * (c.denote (c.rootAt k) ^ ((2 ^ k - j) % 2 ^ k)) ^ l := by
    intro j hj
    have hget : (invFft c k v).getD j 0 =
        monPro c (lengthInverse c (2 ^ k)) ((recFft c k v).getD ((2 ^ k - j) % 2 ^ k) 0) := by
      simp [invFft, List.getD_eq_getElem?_getD, hj]
    rw [hget, denote_monPro hc (lengthInverse_lt hc _), denote_lengthInverse hc hn,
      denote_recFft hc k v hk hv hr _ (Nat.mod_lt _ (by positivity)), evalAt_eq_sum, hv]
  refine List.ext_getElem (by rw [hlr, hv]) fun i h1 h2 => ?_
  have hi : i < 2 ^ k := by rwa [hlr] at h1
  rw [← List.getD_eq_getElem _ 0 h1, ← List.getD_eq_getElem _ 0 h2]
  refine eq_of_denote_eq hc (allReduced_getD hc (recFft_allReduced hc k _ hri) i) (allReduced_getD hc hr i) ?_
  rw [denote_recFft hc k _ hk hli hri i hi, evalAt_eq_sum, hli,
    Finset.sum_congr rfl fun j hj => by rw [hcoef j (Finset.mem_range.1 hj)]]
  exact inverse_sum (root_isPrimitiveRoot hc k hk) hn (fun l => c.denote (v.getD l 0)) hi

end

end Sys2Proof.Proofs
end

section
/-! What a command's body may do: a small calculus of postconditions for bodies, one frame rule per state operation, and
from them the parts of the state each command leaves alone (10_state.md R23, R26, R29; 42_field_element.md R186;
60_exceptions.md R306). -/

namespace Sys2Proof.Proofs

open Sys2Proof.Machine Sys2Proof.Laws

/-! Postconditions of bodies -/

/-- Where a body answers a state, that state satisfies `P`. -/
def Ensures (r : Except Trap State) (P : State → Prop) : Prop := ∀ u, r = .ok u → P u

section
variable {P : State → Prop}

theorem ensures_ok {u : State} (h : P u) : Ensures (.ok u) P := by
  rintro _ ⟨⟩
  exact h

theorem ensures_error (t : Trap) : Ensures (.error t) P := fun _ h => by cases h

theorem ensures_guarded {t : Option Trap} {u : State} (h : t = none → P u) : Ensures (guarded t u) P := by
  intro v hv
  obtain ⟨ht, rfl⟩ := guarded_eq_ok.1 hv
  exact h ht

theorem ensures_onPoly {s : State} {i : PolyIdx} {body : Poly → Except Trap State}
    (h : ∀ p, s.getPoly i = some p → Ensures (body p) P) : Ensures (onPoly s i body) P := by
  rcases onPoly_cases s i body with ⟨p, hp, hb⟩ | ⟨-, hb⟩ <;> rw [hb]
  · exact h p hp
  · exact ensures_error _

theorem ensures_map {r : Except Trap JobWork} {f : JobWork → State} (h : ∀ w, r = .ok w → P (f w)) :
    Ensures (r.map f) P := by
  cases r with
  | error t => exact ensures_error t
  | ok w => exact ensures_ok (h w rfl)

end

/-- `exec i s` settles a body that ensures `P`. -/
def BodyEnsures (i : Instr) (s : State) (P : State → Prop) : Prop := ∃ r, exec i s = settle s r ∧ Ensures r P

/-- A command completes a state its body ensures, or takes a fault. -/
theorem BodyEnsures.next_cases {i : Instr} {s t : State} {P : State → Prop} (hb : BodyEnsures i s P)
    (h : exec i s = .next t) : (∃ u, P u ∧ t = complete u) ∨ ∃ tr, t = raise tr s := by
  obtain ⟨r, hr, hP⟩ := hb
  rw [hr] at h
  rcases settle_cases h with ⟨u, rfl, rfl⟩ | ⟨tr, -, rfl⟩
  · exact .inl ⟨u, hP u rfl, rfl⟩
  · exact .inr ⟨tr, rfl⟩

/-! Frames -/

/-- The fields no command's body writes: those of completion, of faults, of the host's side, and the configuration. -/
structure Control where
  cfg : Cfg
  cseq : Word
  busy : Bool
  fault : Bool
  frec : FaultRecord
  cmd0 : Word
  cmd1 : Word
  cmd2 : Word
  current : Command
  host : List HostMove
  rdata : Word
  epoch : Nat

/-- The control fields of a state. -/
def controlOf (s : State) : Control :=
  ⟨s.cfg, s.cseq, s.busy, s.fault, s.frec, s.cmd0, s.cmd1, s.cmd2, s.current, s.host, s.rdata, s.epoch⟩

/-- The commands that store to `VM`. -/
def touchesVm : Instr → Bool
  | .ste _ _ | .fftrec _ _ _ | .fftr2 _ _ _ _ | .fft4 _ _ _ _ _ | .ifft _ _ _ | .jst _ _ | .pstc _ _ | .pstp _ _ => true
  | _ => false

/-- The commands that write the job table. -/
def touchesJobs : Instr → Bool
  | .jnew _ _ _ _ | .jfork _ _ _ | .jfft _ | .jmerge _ _ | .jrun _ | .jfree _ => true
  | _ => false

/-- The commands that write descriptors. -/
def touchesPolys : Instr → Bool
  | .pnew _ _ _ | .pnewp _ _ _ | .pext _ _ | .padd _ _ _ | .pmul _ _ _ | .peval _ _ _ | .pcoef _ | .ppoint _ | .pstc _ _
  | .pstp _ _ | .pfree _ => true
  | _ => false

/-- Between `s` and `u` only what the command `i` may write has changed, `RINIT` and the count of free values apart. -/
structure Confined (i : Instr) (s u : State) : Prop where
  control : controlOf u = controlOf s
  regs : ∀ r, destReg i ≠ some r → u.getF r = s.getF r
  allRegs : destReg i = none → u.f = s.f
  flagC : writesC i = false → u.flagC = s.flagC
  flagS : writesS i = false → u.flagS = s.flagS
  flagZ : writesZ i = false → u.flagZ = s.flagZ
  w : writesW i = false → u.w = s.w
  res : writesRes i = false → u.res0 = s.res0 ∧ u.res1 = s.res1 ∧ u.res2 = s.res2
  vm : touchesVm i = false → u.vm = s.vm
  jt : touchesJobs i = false → u.jt = s.jt
  pd : touchesPolys i = false → u.pd = s.pd

namespace Confined

variable {i : Instr} {s t u : State}

theorem refl (i : Instr) (s : State) : Confined i s s :=
  ⟨rfl, fun _ _ => rfl, fun _ => rfl, fun _ => rfl, fun _ => rfl, fun _ => rfl, fun _ => rfl, fun _ => ⟨rfl, rfl, rfl⟩,
    fun _ => rfl, fun _ => rfl, fun _ => rfl⟩

theorem trans (h : Confined i s t) (k : Confined i t u) : Confined i s u where
  control := k.control.trans h.control
  regs r hr := (k.regs r hr).trans (h.regs r hr)
  allRegs hi := (k.allRegs hi).trans (h.allRegs hi)
  flagC hi := (k.flagC hi).trans (h.flagC hi)
  flagS hi := (k.flagS hi).trans (h.flagS hi)
  flagZ hi := (k.flagZ hi).trans (h.flagZ hi)
  w hi := (k.w hi).trans (h.w hi)
  res hi := by
    obtain ⟨h0, h1, h2⟩ := h.res hi
    obtain ⟨k0, k1, k2⟩ := k.res hi
    exact ⟨k0.trans h0, k1.trans h1, k2.trans h2⟩
  vm hi := (k.vm hi).trans (h.vm hi)
  jt hi := (k.jt hi).trans (h.jt hi)
  pd hi := (k.pd hi).trans (h.pd hi)

theorem cfg (h : Confined i s u) : u.cfg = s.cfg := congrArg Control.cfg h.control

/-! One rule per operation -/

theorem setF {r : RegIdx} (hi : destReg i = some r) (s : State) (v : U256) : Confined i s (s.setF r v) :=
  { refl i s with
    regs := fun q hq => getF_setF_ne s r q v fun e => hq (e ▸ hi)
    allRegs := fun h => by simp [hi] at h }

theorem setC (hi : writesC i = true) (s : State) (b : Bool) : Confined i s (s.setC b) :=
  { refl i s with flagC := fun h => by simp [hi] at h }

theorem setS (hi : writesS i = true) (s : State) (b : Bool) : Confined i s (s.setS b) :=
  { refl i s with flagS := fun h => by simp [hi] at h }

theorem setZ (hi : writesZ i = true) (s : State) (b : Bool) : Confined i s (s.setZ b) :=
  { refl i s with flagZ := fun h => by simp [hi] at h }

theorem setW (hi : writesW i = true) (s : State) (v : BitVec 512) : Confined i s (s.setW v) :=
  { refl i s with w := fun h => by simp [hi] at h }

theorem setRes (hi : writesRes i = true) (s : State) (r0 r1 r2 : Word) : Confined i s (s.setRes r0 r1 r2) :=
  { refl i s with res := fun h => by simp [hi] at h }

theorem setRinit (s : State) : Confined i s s.setRinit := { refl i s with }

theorem drawn (s : State) (k : Nat) : Confined i s (s.drawn k) := { refl i s with }

theorem putElem {r : RegIdx} (hi : destReg i = some r) (s : State) (reduced : Bool) (v : U256) :
    Confined i s (s.putElem r reduced v) := by
  unfold State.putElem
  split
  · exact setF hi s v
  · exact (setF hi s _).trans (drawn _ 1)

theorem memWrite (hi : touchesVm i = true) (s : State) (addr : Nat) (vs : List U256) : Confined i s (s.memWrite addr vs) :=
  { refl i s with vm := fun h => by simp [hi] at h }

theorem putVec (hi : touchesVm i = true) (s : State) (addr : Nat) (reduced : Bool) (v : List U256) :
    Confined i s (s.putVec addr reduced v) :=
  { refl i s with vm := fun h => by simp [hi] at h }

theorem transformEffect (hi : touchesVm i = true) (s : State) (src dst len : Word) (extra : Bool)
    (fn : List U256 → List U256) : Confined i s (transformEffect s src dst len extra fn) :=
  (putVec hi s _ _ _).trans (setRinit _)

theorem withJobWork (hi : touchesJobs i = true) (s : State) (w : JobWork) : Confined i s (s.withJobWork w) :=
  { refl i s with jt := fun h => by simp [hi] at h }

theorem setJob (hi : touchesJobs i = true) (s : State) (j : JobIdx) (e : Option JobEntry) : Confined i s (s.setJob j e) :=
  { refl i s with jt := fun h => by simp [hi] at h }

theorem reportRun (hi : writesRes i = true) (s : State) (id : Word) : Confined i s (reportRun s id) := by
  unfold Machine.reportRun
  split <;> exact setRes hi _ _ _ _

theorem setPoly (hi : touchesPolys i = true) (s : State) (p : PolyIdx) (e : Option Poly) : Confined i s (s.setPoly p e) :=
  { refl i s with pd := fun h => by simp [hi] at h }

/-- Writing a descriptor, drawing free values and setting `RINIT`. -/
theorem setPoly_draws_rinit (hi : touchesPolys i = true) (s : State) (p : PolyIdx) (e : Option Poly) (n : Nat) (b : Bool) :
    Confined i s { s.setPoly p e with draws := n, rinit := b } :=
  (setPoly hi s p e).trans { refl i (s.setPoly p e) with }

theorem forceCoef (hi : touchesPolys i = true) (s : State) (p : PolyIdx) (reduced : Bool) :
    Confined i s (s.forceCoef p reduced) := by
  unfold State.forceCoef
  split
  · exact refl i s
  · split
    · exact refl i s
    · exact setPoly_draws_rinit hi s p _ _ _

theorem forcePoint (hi : touchesPolys i = true) (s : State) (p : PolyIdx) (reduced : Bool) :
    Confined i s (s.forcePoint p reduced) := by
  unfold State.forcePoint
  split
  · exact refl i s
  · split
    · exact refl i s
    · exact setPoly_draws_rinit hi s p _ _ _

theorem extend (hi : touchesPolys i = true) (s : State) (p : PolyIdx) (d : Nat) (reduced : Bool) :
    Confined i s (s.extend p d reduced) := by
  unfold State.extend
  split
  · exact refl i s
  · split
    · exact refl i s
    · exact setPoly_draws_rinit hi s p _ _ _

theorem newCoef (hi : touchesPolys i = true) (s : State) (p : PolyIdx) (reduced : Bool) (d : Nat) (v : List U256) :
    Confined i s (s.newCoef p reduced d v) := setPoly_draws_rinit hi s p _ _ s.rinit

theorem newPoint (hi : touchesPolys i = true) (s : State) (p : PolyIdx) (reduced : Bool) (d : Nat) (v : List U256) :
    Confined i s (s.newPoint p reduced d v) := setPoly_draws_rinit hi s p _ _ s.rinit

end Confined

/-- Every command's body writes only what the command may write. -/
theorem bodyEnsures_confined (i : Instr) (s : State) : BodyEnsures i s (Confined i s) := by
  cases i with
  | nop => exact ⟨_, rfl, ensures_ok (.refl _ _)⟩
  | lde => exact ⟨_, rfl, ensures_guarded fun _ => .setF rfl _ _⟩
  | ste => exact ⟨_, rfl, ensures_guarded fun _ => .memWrite rfl _ _ _⟩
  | ldi | rdw | uclr | umov | umul256 | fzero | fone | frands => exact ⟨_, rfl, ensures_ok (.setF rfl _ _)⟩
  | uadd | usub =>
    exact ⟨_, rfl, ensures_ok (((Confined.setF rfl _ _).trans (.setC rfl _ _)).trans (.setS rfl _ _))⟩
  | uneg => exact ⟨_, rfl, ensures_ok ((Confined.setF rfl _ _).trans (.setS rfl _ _))⟩
  | umul512 => exact ⟨_, rfl, ensures_ok (.setW rfl _ _)⟩
  | ueq | feq | fisz => exact ⟨_, rfl, ensures_ok (.setZ rfl _ _)⟩
  | monpro | monadd | monsub | tomont | frommont | fsqr | fneg | finv | ftocan =>
    exact ⟨_, rfl, ensures_ok (.putElem rfl _ _ _)⟩
  | frand => exact ⟨_, rfl, ensures_ok ((Confined.setF rfl _ _).trans (.drawn _ _))⟩
  | froot => exact ⟨_, rfl, ensures_guarded fun _ => (Confined.setF rfl _ _).trans (.setRinit _)⟩
  | ffromcan fd fa =>
    refine ⟨_, rfl, ?_⟩
    split
    · exact ensures_ok (.setF rfl _ _)
    · exact ensures_error _
  | fftrec | fftr2 | fft4 | ifft => exact ⟨_, rfl, ensures_guarded fun _ => .transformEffect rfl _ _ _ _ _ _⟩
  | jnew => exact ⟨_, rfl, ensures_guarded fun _ => .withJobWork rfl _ _⟩
  | jfork jd js target =>
    refine ⟨_, rfl, ?_⟩
    split
    · exact ensures_error _
    · split
      · exact ensures_error _
      · exact ensures_guarded fun _ => .withJobWork rfl _ _
  | jfft | jmerge => exact ⟨_, rfl, ensures_map fun w _ => .withJobWork rfl _ w⟩
  | jfind id =>
    refine ⟨_, rfl, ?_⟩
    split
    · exact ensures_ok ((Confined.setZ rfl _ _).trans (.setRes rfl _ _ _ _))
    · split
      · exact ensures_error _
      · exact ensures_ok ((Confined.setZ rfl _ _).trans (.setRes rfl _ _ _ _))
  | jrun => exact ⟨_, rfl, ensures_map fun w _ => (Confined.withJobWork rfl _ w).trans (.reportRun rfl _ _)⟩
  | jst js dst =>
    refine ⟨_, rfl, ?_⟩
    split
    · exact ensures_error _
    · exact ensures_guarded fun _ => .putVec rfl _ _ _ _
  | jfree => exact ⟨_, rfl, ensures_ok (.setJob rfl _ _ _)⟩
  | jqry | pqry =>
    refine ⟨_, rfl, ensures_ok ?_⟩
    split <;> exact .setRes rfl _ _ _ _
  | pnew => exact ⟨_, rfl, ensures_guarded fun _ => .newCoef rfl _ _ _ _ _⟩
  | pnewp => exact ⟨_, rfl, ensures_guarded fun _ => .newPoint rfl _ _ _ _ _⟩
  | pext => exact ⟨_, rfl, ensures_onPoly fun p _ => ensures_guarded fun _ => .extend rfl _ _ _ _⟩
  | padd =>
    refine ⟨_, rfl, ensures_onPoly fun p _ => ensures_onPoly fun q _ => ensures_guarded fun _ => ?_⟩
    exact ((((Confined.extend rfl _ _ _ _).trans (.extend rfl _ _ _ _)).trans (.forceCoef rfl _ _ _)).trans
      (.forceCoef rfl _ _ _)).trans (.newCoef rfl _ _ _ _ _)
  | pmul =>
    refine ⟨_, rfl, ensures_onPoly fun p _ => ensures_onPoly fun q _ => ensures_guarded fun _ => ?_⟩
    exact ((((Confined.extend rfl _ _ _ _).trans (.extend rfl _ _ _ _)).trans (.forcePoint rfl _ _ _)).trans
      (.forcePoint rfl _ _ _)).trans (.newPoint rfl _ _ _ _ _)
  | peval =>
    exact ⟨_, rfl, ensures_onPoly fun p _ => ensures_guarded fun _ =>
      (Confined.forceCoef rfl _ _ _).trans (.putElem rfl _ _ _)⟩
  | pcoef => exact ⟨_, rfl, ensures_onPoly fun p _ => ensures_guarded fun _ => .forceCoef rfl _ _ _⟩
  | ppoint => exact ⟨_, rfl, ensures_onPoly fun p _ => ensures_guarded fun _ => .forcePoint rfl _ _ _⟩
  | pstc =>
    exact ⟨_, rfl, ensures_onPoly fun p _ => ensures_guarded fun _ =>
      (Confined.forceCoef rfl _ _ _).trans (.putVec rfl _ _ _ _)⟩
  | pstp =>
    exact ⟨_, rfl, ensures_onPoly fun p _ => ensures_guarded fun _ =>
      (Confined.forcePoint rfl _ _ _).trans (.putVec rfl _ _ _ _)⟩
  | pfree => exact ⟨_, rfl, ensures_ok (.setPoly rfl _ _ _)⟩

/-- What a command answers: its body's state completed, only what it may write changed, or a fault taken where it started. -/
theorem exec_cases {i : Instr} {s t : State} (h : exec i s = .next t) :
    (∃ u, Confined i s u ∧ t = complete u) ∨ ∃ tr, t = raise tr s := (bodyEnsures_confined i s).next_cases h

/-- Settles O19: a completed command changed only what it may write, and a fault changes none of these fields. -/
theorem registerFlagAndResultWriters : Obligations.RegisterFlagAndResultWriters := by
  intro i s t h
  rcases exec_cases h with ⟨u, hu, rfl⟩ | ⟨tr, rfl⟩
  · refine ⟨hu.regs, hu.flagC, hu.flagS, hu.flagZ, hu.w, hu.res, fun hs ht => ?_⟩
    have hfault : u.fault = s.fault := congrArg Control.fault hu.control
    rw [complete_fault, hfault, hs] at ht
    cases ht
  · exact ⟨fun _ _ => rfl, fun _ => rfl, fun _ => rfl, fun _ => rfl, fun _ => rfl, fun _ => ⟨rfl, rfl, rfl⟩,
      fun _ _ => ⟨rfl, rfl, rfl, rfl, rfl, rfl, rfl, rfl⟩⟩

end Sys2Proof.Proofs
end

section
/-! Reduced registers (10_state.md R22), and the host's side: reset (R45), the register map (R43) and the issue of commands
(R44). -/

namespace Sys2Proof.Proofs

open Sys2Proof.Machine Sys2Proof.Laws

/-! Reduced registers -/

section
variable {s : State}

/-- After a write an element register holds the value written or what it held. -/
theorem getF_setF_cases (s : State) (r q : RegIdx) (v : U256) : (s.setF r v).getF q = v ∨ (s.setF r v).getF q = s.getF q := by
  by_cases hq : q = r
  · subst hq
    by_cases hr : isReg q = true
    · exact .inl (getF_setF_same s q v hr)
    · have hge : 16 ≤ q.toNat := by simpa [isReg] using hr
      exact .inr (by simp [State.getF, State.setF, hge])
  · exact .inr (getF_setF_ne s r q v hq)

theorem registersReduced_setF (h : s.RegistersReduced) (r : RegIdx) {v : U256} (hv : v.toNat < s.cfg.n.toNat) :
    (s.setF r v).RegistersReduced := by
  intro q
  rw [State.setF_cfg]
  rcases getF_setF_cases s r q v with e | e <;> rw [e]
  · exact (isReduced_iff _ _).2 hv
  · exact h q

theorem getF_lt (h : s.RegistersReduced) (r : RegIdx) : (s.getF r).toNat < s.cfg.n.toNat := (isReduced_iff _ _).1 (h r)

theorem registersReduced_binaryElem {op : Cfg → U256 → U256 → U256} (h : s.RegistersReduced) (fd fa fb : RegIdx)
    (hop : (op s.cfg (s.getF fa) (s.getF fb)).toNat < s.cfg.n.toNat) : (binaryElem op fd fa fb s).RegistersReduced := by
  rw [binaryElem, h fa, h fb, Bool.and_self, putElem_true]
  exact registersReduced_setF h fd hop

theorem registersReduced_unaryElem {op : Cfg → U256 → U256} (h : s.RegistersReduced) (fd fa : RegIdx)
    (hop : (op s.cfg (s.getF fa)).toNat < s.cfg.n.toNat) : (unaryElem op fd fa s).RegistersReduced := by
  rw [unaryElem, h fa, putElem_true]
  exact registersReduced_setF h fd hop

theorem intoField_lt {c : Cfg} (hc : c.WellFormed) (v : U256) : (intoField c v).toNat < c.n.toNat := by
  have hlt := Nat.mod_lt v.toNat hc.prime.pos
  rw [intoField, BitVec.toNat_ofNat, Nat.mod_eq_of_lt (hlt.trans c.n.isLt)]
  exact hlt

/-- A root the lookup finds is an entry of the table. -/
theorem rootLookupTrap_none {c : Cfg} {x y : Word} (h : rootLookupTrap c x y = none) :
    (operand64 x y).toNat.log2 ≤ c.maxLog := by
  by_contra hlt
  simp [rootLookupTrap, Nat.lt_of_not_le hlt] at h

end

/-- The bodies of the Montgomery and field families keep the registers reduced. -/
theorem bodyEnsures_registersReduced {i : Instr} {s : State} (hc : s.cfg.WellFormed) (h : s.RegistersReduced)
    (hi : isFieldCommand i = true) : BodyEnsures i s State.RegistersReduced := by
  have hlt := getF_lt h
  cases i with
  | monpro fd fa fb => exact ⟨_, rfl, ensures_ok (registersReduced_binaryElem h fd fa fb (monPro_lt hc (hlt fa) _))⟩
  | monadd fd fa fb => exact ⟨_, rfl, ensures_ok (registersReduced_binaryElem h fd fa fb (monAdd_lt hc (hlt fa) (hlt fb)))⟩
  | monsub fd fa fb => exact ⟨_, rfl, ensures_ok (registersReduced_binaryElem h fd fa fb (monSub_lt hc (hlt fa) (hlt fb)))⟩
  | tomont fd fa | frommont fd fa | fsqr fd fa | ftocan fd fa =>
    exact ⟨_, rfl, ensures_ok (registersReduced_unaryElem h fd fa (monPro_lt hc (hlt fa) _))⟩
  | fneg fd fa =>
    exact ⟨_, rfl, ensures_ok (registersReduced_unaryElem h fd fa (monSub_lt hc (zero_lt_modulus hc) (hlt fa)))⟩
  | finv fd fa => exact ⟨_, rfl, ensures_ok (registersReduced_unaryElem h fd fa (fieldInverse_lt hc _))⟩
  | fzero fd => exact ⟨_, rfl, ensures_ok (registersReduced_setF h fd (zero_lt_modulus hc))⟩
  | fone fd => exact ⟨_, rfl, ensures_ok (registersReduced_setF h fd (oneM_lt hc))⟩
  | frand fd =>
    refine ⟨_, rfl, ensures_ok ?_⟩
    exact registersReduced_setF h fd (intoField_lt hc _)
  | frands fd x y => exact ⟨_, rfl, ensures_ok (registersReduced_setF h fd (intoField_lt hc _))⟩
  | froot fd x y =>
    exact ⟨_, rfl, ensures_guarded fun ht => registersReduced_setF h fd (hc.root_lt _ (rootLookupTrap_none ht))⟩
  | ffromcan fd fa =>
    refine ⟨_, rfl, ?_⟩
    split
    · exact ensures_ok (registersReduced_setF h fd (monPro_lt hc (hlt fa) _))
    · exact ensures_error _
  | feq | fisz =>
    refine ⟨_, rfl, ensures_ok ?_⟩
    exact h
  | _ => cases hi

/-- Settles O60: every element a command of the two families writes is below `N`. -/
theorem fieldCommandsKeepRegistersReduced : Obligations.FieldCommandsKeepRegistersReduced := by
  intro i s t hc h hi hs
  rcases (bodyEnsures_registersReduced hc h hi).next_cases hs with ⟨u, hu, rfl⟩ | ⟨tr, rfl⟩
  · exact hu
  · exact h

/-! Steps of the host -/

/-- The host's next move of a CORE that runs nothing. -/
theorem step_of_host {s : State} {m : HostMove} {rest : List HostMove} (hb : s.busy = false) (hh : s.host = m :: rest) :
    step s = hostMove m { s with host := rest } := by
  have hn : nextEvent s = .host m rest := by
    by_cases hm : m = .reset <;> simp [nextEvent, hh, hb, hm]
  simp [step, hn, takeMove, hb]

/-- A reset comes first, whatever runs (60_exceptions.md R312). -/
theorem step_of_reset {s : State} {rest : List HostMove} (hh : s.host = .reset :: rest) :
    step s = .next (resetCore { s with host := rest, draws := if s.busy then s.draws + 1 else s.draws }) := by
  have hn : nextEvent s = .host .reset rest := by simp [nextEvent, hh]
  simp [step, hn, takeMove, hostMove]

/-- A write to `CMD3` while the CORE is not idle is dropped (10_state.md R44). -/
theorem issue_of_not_idle {s : State} (h : s.busy = true ∨ s.fault = true) (v : Word) : issue s v = s := by
  have hidle : s.idle = false := by rcases h with h | h <;> simp [State.idle, h]
  simp [issue, hidle]

/-- Settles O7: each write is one host step, and the write to `CMD3` asks whether the CORE is idle. -/
theorem commandIssue : Obligations.CommandIssue := by
  refine ⟨fun s rest v hb hh => step_of_host hb hh, fun s rest v hb hh => step_of_host hb hh,
    fun s rest v hb hh => step_of_host hb hh, fun s rest v hb hf hh => ?_, fun s rest v hb hf hh => ?_,
    fun s v h => issue_of_not_idle h v⟩
  · rw [step_of_host hb hh]
    have hidle : ({ s with host := rest } : State).idle = true := by simp [State.idle, hb, hf]
    exact congrArg Host.Outcome.next (if_pos hidle)
  · rw [step_of_host hb hh]
    exact congrArg Host.Outcome.next (issue_of_not_idle (s := { s with host := rest }) (.inr hf) v)

/-! Reset -/

/-- Every table is empty after a reset. -/
theorem resetCore_getJob (s : State) (j : JobIdx) : (resetCore s).getJob j = none := by
  simp only [State.getJob, resetCore, State.powerOn, Vector.getElem?_replicate]
  split <;> rfl

theorem resetCore_getPoly (s : State) (p : PolyIdx) : (resetCore s).getPoly p = none := by
  simp only [State.getPoly, resetCore, State.powerOn, Vector.getElem?_replicate]
  split <;> rfl

/-- The modulus check passes (70_reset_and_hazards.md R343). -/
theorem resetCore_modulus_ok {s : State} (h : s.cfg.n.toNat < 2 ^ 255) :
    (resetCore s).fault = false ∧ (resetCore s).frec = ⟨0, 0, 0, 0, 0, 0, 0, 0⟩ := by
  simp only [resetCore, State.powerOn, if_neg (Nat.not_le.2 h), decide_eq_false (Nat.not_le.2 h), and_self]

/-- The modulus check fails (70_reset_and_hazards.md R343). -/
theorem resetCore_modulus_bad {s : State} (h : 2 ^ 255 ≤ s.cfg.n.toNat) :
    (resetCore s).fault = true ∧ (resetCore s).frec = ⟨6, limb s.cfg.n 7, 0, 0, 0, 0, 0, 0⟩ := by
  simp only [resetCore, State.powerOn, if_pos h, decide_eq_true h, and_self]

/-- Settles O12: a pending reset is the next event, and the modulus check has two outcomes. -/
theorem resetRestoresTheState : Obligations.ResetRestoresTheState := by
  intro s rest hh
  refine ⟨_, step_of_reset hh, rfl, rfl, rfl, rfl, rfl, rfl, rfl, rfl, rfl, rfl, rfl, rfl, rfl, rfl, rfl,
    resetCore_getJob _, resetCore_getPoly _, rfl, rfl, fun hn => ?_, fun hn => ?_⟩
  · obtain ⟨hf, hr⟩ := resetCore_modulus_ok (s := { s with
      host := rest, draws := if s.busy then s.draws + 1 else s.draws }) hn
    exact ⟨hf, hr, by rw [State.idle, hf]; rfl⟩
  · obtain ⟨hf, hr⟩ := resetCore_modulus_bad (s := { s with
      host := rest, draws := if s.busy then s.draws + 1 else s.draws }) hn
    exact ⟨hf, hr, fun v => issue_of_not_idle (.inr hf) v⟩

/-- The state after any reset meets the invariant. -/
theorem resetCore_inv (s : State) : (resetCore s).Inv where
  memory_wf := resetCore_memory_wf s
  memory_fits := fun c hc => absurd hc List.not_mem_nil
  jobs := fun j e h => by simp [resetCore_getJob] at h
  polys := fun p q h => by simp [resetCore_getPoly] at h
  fault_iff := by
    rcases Nat.lt_or_ge s.cfg.n.toNat (2 ^ 255) with hn | hn
    · simp [resetCore_modulus_ok hn]
    · simp [resetCore_modulus_bad hn]
  cause_le := by
    rcases Nat.lt_or_ge s.cfg.n.toNat (2 ^ 255) with hn | hn
    · simp [resetCore_modulus_ok hn]
    · simp [resetCore_modulus_bad hn]
  not_both := fun _ => rfl

/-- Settles O18: the invariant does not speak of the host's side, in which alone the first reset and a later one differ. -/
theorem resetMeetsTheInvariant : Obligations.ResetMeetsTheInvariant := by
  refine ⟨?_, resetCore_inv⟩
  obtain ⟨hwf, hfits, hjobs, hpolys, hfault, hcause, hboth⟩ := resetCore_inv State.reset
  exact ⟨hwf, hfits, hjobs, hpolys, hfault, hcause, hboth⟩

end Sys2Proof.Proofs
end

section
/-! The register map, range by range (10_state.md R43). -/

namespace Sys2Proof.Proofs

open Sys2Proof.Machine Sys2Proof.Laws

theorem twoAdic_le : ∀ fuel m, twoAdic fuel m ≤ fuel
  | 0, _ => le_rfl
  | fuel + 1, m => by
    have := twoAdic_le fuel (m / 2)
    unfold twoAdic
    split <;> omega

theorem maxLog_le (c : Cfg) : c.maxLog ≤ 62 := twoAdic_le 62 _

/-- Four bytes, lowest last, as one word. -/
theorem bytes_append_toNat (b3 b2 b1 b0 : BitVec 8) :
    (b3 ++ b2 ++ b1 ++ b0).toNat = b0.toNat + b1.toNat * 2 ^ 8 + b2.toNat * 2 ^ 16 + b3.toNat * 2 ^ 24 := by
  have h : ∀ {n : Nat} (x : BitVec n) (y : BitVec 8), (x ++ y).toNat = x.toNat * 2 ^ 8 + y.toNat := by
    intro n x y
    rw [BitVec.toNat_append, Nat.shiftLeft_eq, Nat.mul_comm, Nat.two_pow_add_eq_or_of_lt y.isLt, Nat.mul_comm]
  rw [h, h, h]
  ring

/-- `CAP0` byte by byte. -/
theorem cap0_eq_bytes (c : Cfg) : cap0 c = BitVec.ofNat 8 c.maxLog ++ 8#8 ++ 64#8 ++ 16#8 := by
  have hm := maxLog_le c
  apply BitVec.eq_of_toNat_eq
  rw [bytes_append_toNat]
  simp only [cap0, word, BitVec.toNat_ofNat]
  omega

/-- `CAP1` byte by byte. -/
theorem cap1_eq_bytes (c : Cfg) : cap1 c =
    0#8 ++ BitVec.ofNat 8 c.pMaxDeg.log2 ++ BitVec.ofNat 8 c.jMaxLen.log2 ++ BitVec.ofNat 8 c.vmSize.log2 := by
  apply BitVec.eq_of_toNat_eq
  rw [bytes_append_toNat]
  simp only [cap1, word, BitVec.toNat_ofNat]
  omega

section
variable (s : State)

/-- The constants of the arithmetic, limb by limb (R31). -/
theorem csrRead_constants {i : Nat} (hi : i < 8) :
    csrRead s (0x020 + i) = limb s.cfg.n i ∧ csrRead s (0x028 + i) = limb s.cfg.negN i ∧
      csrRead s (0x030 + i) = limb s.cfg.r2 i ∧ csrRead s (0x038 + i) = limb s.cfg.r3 i ∧
      csrRead s (0x040 + i) = limb s.cfg.oneM i := by
  interval_cases i <;> exact ⟨rfl, rfl, rfl, rfl, rfl⟩

/-- The window of the root table (R34). -/
theorem csrRead_root {k i : Nat} (hk : k < 63) (hi : i < 8) :
    csrRead s (0x100 + 8 * k + i) = if k ≤ s.cfg.maxLog then limb (s.cfg.rootAt k) i else 0 := by
  have hdiv : (0x100 + 8 * k + i - 0x100) / 8 = k := by omega
  have hmod : (0x100 + 8 * k + i - 0x100) % 8 = i := by omega
  unfold csrRead
  simp only [hdiv, hmod]
  iterate 22 rw [if_neg (by omega)]
  rw [if_pos (by omega)]

/-- The window of the element registers (R21). -/
theorem csrRead_register {r i : Nat} (hr : r < 16) (hi : i < 8) :
    csrRead s (0x400 + 8 * r + i) = limb (s.f[r]?.getD 0) i := by
  have hdiv : (0x400 + 8 * r + i - 0x400) / 8 = r := by omega
  have hmod : (0x400 + 8 * r + i - 0x400) % 8 = i := by omega
  have hidx : (BitVec.ofNat 8 r).toNat = r := by rw [BitVec.toNat_ofNat]; omega
  unfold csrRead
  simp only [hdiv, hmod, State.getF, hidx]
  iterate 23 rw [if_neg (by omega)]
  rw [if_pos (by omega)]

/-- The window of `W` (R23). -/
theorem csrRead_product {i : Nat} (hi : i < 16) : csrRead s (0x480 + i) = s.w.extractLsb' (32 * i) 32 := by
  unfold csrRead
  iterate 24 rw [if_neg (by omega)]
  rw [if_pos (by omega), Nat.add_sub_cancel_left]

/-- The numbers the table does not list, and the write-only ones. -/
theorem csrRead_unlisted {n : Nat} (h : n = 0x007 ∨ n = 0x00f ∨ 0x012 ≤ n ∧ n < 0x020 ∨ 0x049 ≤ n ∧ n < 0x100 ∨
    0x2f8 ≤ n ∧ n < 0x400 ∨ 0x490 ≤ n) : csrRead s n = 0 := by
  unfold csrRead
  iterate 25 rw [if_neg (by omega)]

/-- Only `CMD0..3` take a write (R44). -/
theorem csrWrite_ignored {n : Nat} (h0 : n ≠ 0x800) (h1 : n ≠ 0x801) (h2 : n ≠ 0x802) (h3 : n ≠ 0x803) (v : Word) :
    csrWrite s n v = s := by
  rw [csrWrite, if_neg h0, if_neg h1, if_neg h2, if_neg h3]

end

/-- Settles O8: the map's ranges, one lemma each, and the host's step. -/
theorem registerMap : Obligations.RegisterMap := by
  intro s
  refine ⟨rfl, rfl, rfl, rfl, rfl, rfl, rfl, rfl, rfl, rfl, rfl, rfl, rfl, rfl, cap0_eq_bytes s.cfg, cap1_eq_bytes s.cfg,
    fun i hi => csrRead_constants s hi, rfl, fun k i hk hi => csrRead_root s hk hi,
    fun r i hr hi => csrRead_register s hr hi, fun i hi => csrRead_product s hi, fun n hn => csrRead_unlisted s hn,
    fun n v h0 h1 h2 h3 => ⟨csrWrite_ignored s h0 h1 h2 h3 v, fun rest hb hh => ?_⟩, fun n rest hb hh => step_of_host hb hh⟩
  rw [step_of_host hb hh]
  exact congrArg Host.Outcome.next (csrWrite_ignored _ h0 h1 h2 h3 v)

end Sys2Proof.Proofs
end

section
/-! The invariant of a state under every step: the vector memory, the job table, the descriptors and the fault record
(10_state.md R27, R28, R39, R40, R42). -/

namespace Sys2Proof.Proofs

open Sys2Proof.Machine Sys2Proof.Laws

/-! What the checks establish -/

theorem eq_two_pow_log2 {n : Nat} (h : isPow2 n = true) : n = 2 ^ n.log2 := by simpa [isPow2] using h

theorem boundsTrap_none {s : State} {addr n : Nat} (h : boundsTrap s addr n = none) : addr + n ≤ s.cfg.vmSize := by
  by_contra hn
  simp [boundsTrap, State.vmFits, hn] at h

theorem rootTrap_none {c : Cfg} {n : Nat} (h : rootTrap c n = none) : n.log2 ≤ c.maxLog := by
  by_contra hn
  simp [rootTrap, Nat.lt_of_not_le hn] at h

/-- A transform command whose checks pass: its length is a power of two and its destination fits (43_fft.md R202). -/
theorem transformTrap_none {s : State} {op : Nat} {src dst len : Word} {shape : Option (Nat × Nat)}
    (h : transformTrap s op src dst len shape = none) :
    isPow2 len.toNat = true ∧ shapeTrap shape len.toNat = none ∧ dst.toNat + len.toNat ≤ s.cfg.vmSize := by
  unfold transformTrap at h
  split_ifs at h with h1 h2
  obtain ⟨hs, -, hd⟩ := by simpa only [Option.or_eq_none_iff] using h
  exact ⟨by simpa using h1, hs, boundsTrap_none hd⟩

theorem shapeTrap_none {a b len : Nat} (h : shapeTrap (some (a, b)) len = none) : 2 ^ a * 2 ^ b = len := by
  by_contra hn
  simp [shapeTrap, hn] at h

/-! The vector memory -/

/-- A memory in canonical form and inside `VM`. -/
def VmOk (c : Cfg) (m : Memory) : Prop := Memory.wf m = true ∧ ∀ x ∈ m, x.1 < 32 * c.vmSize

/-- A store inside `VM` keeps the memory in form. -/
theorem VmOk.store {c : Cfg} {m : Memory} (h : VmOk c m) {a : Nat} {bs : List Byte} (hb : a + bs.length ≤ 32 * c.vmSize) :
    VmOk c (Memory.store m a bs) := ⟨store_wf m a bs h.1, store_bound m a bs _ h.2 hb⟩

theorem VmOk.memWrite {s : State} (h : VmOk s.cfg s.vm) {addr : Nat} {vs : List U256}
    (hfit : addr + vs.length ≤ s.cfg.vmSize) : VmOk s.cfg (s.memWrite addr vs).vm := by
  refine h.store ?_
  rw [flatMap_bytes_length]
  omega

theorem VmOk.putVec {s : State} (h : VmOk s.cfg s.vm) {addr : Nat} (reduced : Bool) {v : List U256}
    (hfit : addr + v.length ≤ s.cfg.vmSize) : VmOk s.cfg (s.putVec addr reduced v).vm :=
  h.memWrite (vs := (openVec reduced v s.draws).1) (by rwa [openVec_length])

theorem VmOk.writeLimb {s : State} (h : VmOk s.cfg s.vm) {slot i : Nat} (hs : slot < s.cfg.vmSize) (hi : i < 8) (v : Word) :
    VmOk s.cfg (s.writeLimb slot i v).vm := by
  refine h.store ?_
  rw [limbBytes_length]
  omega

/-! The job table -/

theorem slot_put (w : JobWork) (reduced : Bool) (j k : Nat) (e : JobEntry) :
    (w.put reduced j e).slot k =
      if j = k ∧ k < 64 then some { e with data := (openVec reduced e.data w.draws).1 } else w.slot k := by
  by_cases hjk : j = k
  · subst hjk
    by_cases hj : j < 64 <;> simp [JobWork.put, JobWork.slot, hj]
  · simp [JobWork.put, JobWork.slot, hjk]

theorem slot_clear_cases (w : JobWork) (j k : Nat) : (w.clear j).slot k = none ∨ (w.clear j).slot k = w.slot k := by
  by_cases hjk : j = k
  · subst hjk
    by_cases hj : j < 64 <;> simp [JobWork.clear, JobWork.slot, hj]
  · exact .inr (by simp [JobWork.clear, JobWork.slot, hjk])

/-- Every entry of the table keeps the bounds of its fields. -/
def WorkOk (c : Cfg) (w : JobWork) : Prop := ∀ j e, w.slot j = some e → e.Ok c

section
variable {c : Cfg} {w w' : JobWork}

/-- The bounds speak of an entry's length, not of its elements. -/
theorem jobEntry_ok_open {e : JobEntry} (h : e.Ok c) (reduced : Bool) (n : Nat) :
    ({ e with data := (openVec reduced e.data n).1 } : JobEntry).Ok c where
  pow2 := by rw [openVec_length]; exact h.pow2
  fits := by rw [openVec_length]; exact h.fits
  side := h.side

theorem WorkOk.put (h : WorkOk c w) {e : JobEntry} (he : e.Ok c) (reduced : Bool) (j : Nat) :
    WorkOk c (w.put reduced j e) := by
  intro k e' hk
  rw [slot_put] at hk
  split at hk
  · cases hk
    exact jobEntry_ok_open he _ _
  · exact h k e' hk

theorem WorkOk.clear (h : WorkOk c w) (j : Nat) : WorkOk c (w.clear j) := by
  intro k e hk
  rcases slot_clear_cases w j k with hs | hs <;> rw [hs] at hk
  · cases hk
  · exact h k e hk

theorem WorkOk.useRoots (h : WorkOk c w) : WorkOk c w.useRoots := h

theorem WorkOk.putAll (reduced : Bool) : ∀ (es : List JobEntry) (j : Nat) {w : JobWork}, WorkOk c w → (∀ e ∈ es, e.Ok c) →
    WorkOk c (JobWork.putAll reduced j es w)
  | [], _, _, h, _ => h
  | e :: es, j, _, h, he =>
    WorkOk.putAll reduced es (j + 1) (h.put (he e (by simp)) reduced j) fun x hx => he x (by simp [hx])

/-- `JFFT`'s work: the slot holds a Job, which becomes its transform (44_job_merge.md R236, R237). -/
theorem fftSlot_eq_ok {reduced : Bool} {js : Nat} (h : fftSlot c reduced js w = .ok w') :
    ∃ e, w.slot js = some e ∧ e.kind = .job ∧ rootTrap c e.data.length = none ∧
      w' = (w.put reduced js (jobTransform c e)).useRoots := by
  unfold fftSlot at h
  split at h
  · cases h
  · next e he =>
    split_ifs at h with hk
    split at h
    · cases h
    · next hr => exact ⟨e, he, by simpa using hk, hr, by cases h; rfl⟩

/-- `JMERGE`'s work: two mergeable entries of one length become their merge (44_job_merge.md R239, R240). -/
theorem mergeSlots_eq_ok {reduced : Bool} {js jo : Nat} (h : mergeSlots c reduced js jo w = .ok w') :
    ∃ a b, w.slot js = some a ∧ w.slot jo = some b ∧ pairMask a b = 0 ∧ 2 * a.data.length ≤ c.jMaxLen ∧
      w' = ((w.put reduced js (mergeEntries c a b)).clear jo).useRoots := by
  unfold mergeSlots at h
  split at h
  · cases h
  · next a ha =>
    by_cases hka : a.kind ≠ .mergeJob
    · rw [if_pos hka] at h
      cases h
    · rw [if_neg hka] at h
      split at h
      · cases h
      · next b hb =>
        split_ifs at h with _ hp hl
        split at h
        · cases h
        · exact ⟨a, b, ha, hb, by simpa using hp, by omega, by cases h; rfl⟩

theorem pairMask_zero_length {a b : JobEntry} (h : pairMask a b = 0) : a.data.length = b.data.length := by
  by_contra hn
  simp [pairMask, hn] at h

theorem jobTransform_ok {e : JobEntry} (h : e.Ok c) : (jobTransform c e).Ok c := by
  have hlen : (jobTransform c e).data.length = e.data.length :=
    (recFft_length c _ _ (eq_two_pow_log2 h.pow2)).trans (eq_two_pow_log2 h.pow2).symm
  exact ⟨by rw [hlen]; exact h.pow2, by rw [hlen]; exact h.fits, nofun⟩

theorem mergeEntries_length {a b : JobEntry} (h : a.data.length = b.data.length) :
    (mergeEntries c a b).data.length = 2 * a.data.length := by
  simp only [mergeEntries]
  cases a.side
  · exact combine_length c _ rfl h.symm
  · exact combine_length c _ h.symm rfl

theorem mergeEntries_ok {a b : JobEntry} (ha : a.Ok c) (h : a.data.length = b.data.length)
    (hfit : 2 * a.data.length ≤ c.jMaxLen) : (mergeEntries c a b).Ok c := by
  obtain ⟨k, hk⟩ := (isPow2_iff _).1 ha.pow2
  refine ⟨?_, ?_, nofun⟩
  · rw [mergeEntries_length h, hk, ← pow_succ']
    exact isPow2_pow _
  · rwa [mergeEntries_length h]

theorem forkLeaf_ok {e : JobEntry} (he : e.Ok c) {g : Nat} (hg : isPow2 g = true) (hle : g ≤ e.data.length) (t i : Nat) :
    (forkLeaf e t g i).Ok c := by
  have hlen : (forkLeaf e t g i).data.length = g := by simp [forkLeaf]
  exact ⟨by rw [hlen]; exact hg, by rw [hlen]; exact hle.trans he.fits, fun _ => rfl⟩

theorem WorkOk.fftSlot {reduced : Bool} {js : Nat} (h : WorkOk c w) (hw : fftSlot c reduced js w = .ok w') : WorkOk c w' := by
  obtain ⟨e, he, -, -, rfl⟩ := fftSlot_eq_ok hw
  exact (h.put (jobTransform_ok (h js e he)) reduced js).useRoots

theorem WorkOk.mergeSlots {reduced : Bool} {js jo : Nat} (h : WorkOk c w) (hw : mergeSlots c reduced js jo w = .ok w') :
    WorkOk c w' := by
  obtain ⟨a, b, ha, -, hmask, hfit, rfl⟩ := mergeSlots_eq_ok hw
  exact ((h.put (mergeEntries_ok (h js a ha) (pairMask_zero_length hmask) hfit) reduced js).clear jo).useRoots

theorem bind_eq_ok {f : JobWork → Except Trap JobWork} {r : Except Trap JobWork} (h : r.bind f = .ok w') :
    ∃ w, r = .ok w ∧ f w = .ok w' := by
  cases r with
  | error t => cases h
  | ok w => exact ⟨w, rfl, h⟩

theorem WorkOk.fftLeaves {reduced : Bool} : ∀ (js : List Nat) {w : JobWork}, WorkOk c w →
    fftLeaves c reduced js w = .ok w' → WorkOk c w'
  | [], _, h, hw => by cases hw; exact h
  | j :: js, _, h, hw => by
    obtain ⟨w1, h1, h2⟩ := bind_eq_ok hw
    exact WorkOk.fftLeaves js (h.fftSlot h1) h2

theorem WorkOk.mergeRounds {reduced : Bool} {id : Word} : ∀ (rounds : Nat) {w : JobWork}, WorkOk c w →
    mergeRounds c reduced id rounds w = .ok w' → WorkOk c w'
  | 0, _, h, hw => by cases hw; exact h
  | rounds + 1, w, h, hw => by
    unfold Machine.mergeRounds at hw
    dsimp only at hw
    split_ifs at hw
    · cases hw
      exact h
    · split at hw
      · cases hw
      · obtain ⟨w1, h1, h2⟩ := bind_eq_ok hw
        exact WorkOk.mergeRounds rounds (h.mergeSlots h1) h2

theorem WorkOk.runTree {reduced : Bool} {id : Word} (h : WorkOk c w) (hw : runTree c reduced id w = .ok w') : WorkOk c w' := by
  obtain ⟨w1, h1, h2⟩ := bind_eq_ok hw
  exact WorkOk.mergeRounds _ (WorkOk.fftLeaves _ h h1) h2

end

/-- Every entry of a state's table keeps the bounds of its fields. -/
def JobsOk (c : Cfg) (s : State) : Prop := ∀ j e, s.getJob j = some e → e.Ok c

/-- The slots of the work are the slots the commands name: past slot 63 there is none. -/
theorem workOk_jobWork {c : Cfg} {s : State} (h : JobsOk c s) : WorkOk c s.jobWork := by
  intro j e hj
  have hlt : j < 64 := by
    by_contra hge
    have hnone : s.jt[j]? = none := by simpa using hge
    simp [JobWork.slot, State.jobWork, hnone] at hj
  have hidx : (BitVec.ofNat 8 j).toNat = j := by rw [BitVec.toNat_ofNat]; omega
  rw [← hidx] at hj
  exact h _ e hj

theorem jobsOk_withJobWork {c : Cfg} (s : State) {w : JobWork} (h : WorkOk c w) : JobsOk c (s.withJobWork w) :=
  fun j e he => h j.toNat e he

theorem jobsOk_reportRun {c : Cfg} {s : State} (h : JobsOk c s) (id : Word) : JobsOk c (reportRun s id) := by
  unfold reportRun
  split <;> exact h

theorem jobsOk_setJob_none {c : Cfg} {s : State} (h : JobsOk c s) (j : JobIdx) : JobsOk c (s.setJob j none) := by
  intro k e hk
  rcases slot_clear_cases s.jobWork j.toNat k.toNat with hs | hs
  · exact absurd (hs.symm.trans hk) nofun
  · exact h k e (hs.symm.trans hk)

theorem jnewTrap_none {s : State} {js : JobIdx} {src len : Word} (h : jnewTrap s js src len = none) :
    isPow2 len.toNat = true ∧ len.toNat ≤ s.cfg.jMaxLen := by
  unfold jnewTrap at h
  split_ifs at h with h1 h2 h3
  exact ⟨by simpa using h2, by omega⟩

theorem jforkTrap_none {s : State} {jd : JobIdx} {e : JobEntry} {g : Nat} (h : jforkTrap s jd e g = none) :
    isPow2 g = true ∧ g ≤ e.data.length := by
  unfold jforkTrap at h
  dsimp only at h
  split_ifs at h with h1
  simpa using h1

/-- The bodies of the job commands keep the table. -/
theorem bodyEnsures_jobsOk {i : Instr} {s : State} (h : JobsOk s.cfg s) (hi : touchesJobs i = true) :
    BodyEnsures i s (JobsOk s.cfg) := by
  have hw := workOk_jobWork h
  cases i with
  | jnew js src len id =>
    refine ⟨_, rfl, ensures_guarded fun ht => jobsOk_withJobWork s (hw.put ?_ _ _)⟩
    obtain ⟨hpow, hfit⟩ := jnewTrap_none ht
    exact ⟨by rw [memRead_length]; exact hpow, by rw [memRead_length]; exact hfit, fun _ => rfl⟩
  | jfork jd js target =>
    refine ⟨_, rfl, ?_⟩
    split
    · exact ensures_error _
    · next e he =>
      split
      · exact ensures_error _
      · refine ensures_guarded fun ht => jobsOk_withJobWork s (hw.putAll _ _ _ fun x hx => ?_)
        obtain ⟨hpow, hle⟩ := jforkTrap_none ht
        obtain ⟨k, -, rfl⟩ := List.mem_map.1 hx
        exact forkLeaf_ok (h js e he) hpow hle _ k
  | jfft js => exact ⟨_, rfl, ensures_map fun w hr => jobsOk_withJobWork s (hw.fftSlot hr)⟩
  | jmerge js jo => exact ⟨_, rfl, ensures_map fun w hr => jobsOk_withJobWork s (hw.mergeSlots hr)⟩
  | jrun id => exact ⟨_, rfl, ensures_map fun w hr => jobsOk_reportRun (jobsOk_withJobWork s (hw.runTree hr)) id⟩
  | jfree js => exact ⟨_, rfl, ensures_ok (jobsOk_setJob_none h js)⟩
  | _ => cases hi

end Sys2Proof.Proofs
end

section
/-! The polynomial descriptors under every command (10_state.md R40, R41; 45_polynomial.md R261 to R269, R278). One development
serves the bounds of the fields and, where `strict` holds, the agreement of the two forms of reduced elements. -/

namespace Sys2Proof.Proofs

open Sys2Proof.Machine Sys2Proof.Laws

/-! What the operations make of one descriptor -/

/-- The descriptor `force_coef` leaves (R262); free values are counted from `n`. -/
def forcedCoef (c : Cfg) (reduced : Bool) (n : Nat) (p : Poly) : Poly :=
  if p.coef.isSome then p else { p with coef := some (openVec reduced (p.coefVec c) n).1 }

/-- The descriptor `force_point` leaves (R262). -/
def forcedPoint (c : Cfg) (reduced : Bool) (n : Nat) (p : Poly) : Poly :=
  if p.point.isSome then p else { p with point := some (openVec reduced (p.pointVec c) n).1 }

/-- The descriptor `extend` leaves (R265). -/
def extended (c : Cfg) (d : Nat) (reduced : Bool) (n : Nat) (p : Poly) : Poly :=
  if d = p.degree then p else ⟨d, some (openVec reduced (p.padded c d) n).1, none⟩

@[simp] theorem forcedCoef_degree (c : Cfg) (reduced : Bool) (n : Nat) (p : Poly) :
    (forcedCoef c reduced n p).degree = p.degree := by unfold forcedCoef; split <;> rfl

@[simp] theorem forcedPoint_degree (c : Cfg) (reduced : Bool) (n : Nat) (p : Poly) :
    (forcedPoint c reduced n p).degree = p.degree := by unfold forcedPoint; split <;> rfl

@[simp] theorem extended_degree (c : Cfg) (d : Nat) (reduced : Bool) (n : Nat) (p : Poly) :
    (extended c d reduced n p).degree = d := by
  unfold extended
  split
  · next h => exact h.symm
  · rfl

theorem forcedCoef_isSome (c : Cfg) (reduced : Bool) (n : Nat) (p : Poly) :
    (forcedCoef c reduced n p).coef.isSome = true := by
  unfold forcedCoef
  split
  · assumption
  · rfl

theorem forcedPoint_isSome (c : Cfg) (reduced : Bool) (n : Nat) (p : Poly) :
    (forcedPoint c reduced n p).point.isSome = true := by
  unfold forcedPoint
  split
  · assumption
  · rfl

/-- A valid descriptor has an index in range. -/
theorem getPoly_isPoly {s : State} {i : PolyIdx} {p : Poly} (h : s.getPoly i = some p) : isPoly i = true := by
  by_contra hi
  have hge : 8 ≤ i.toNat := by simpa [isPoly] using hi
  have hnone : s.pd[i.toNat]? = none := by simpa using hge
  simp [State.getPoly, hnone] at h

/-- A descriptor after a write to a valid one. -/
theorem getPoly_setPoly {s : State} {i : PolyIdx} {p : Poly} (h : s.getPoly i = some p) (e : Option Poly) (j : PolyIdx) :
    (s.setPoly i e).getPoly j = if j = i then e else s.getPoly j := by
  split
  · next hj => rw [hj, getPoly_setPoly_same s i e (getPoly_isPoly h)]
  · next hj => exact getPoly_setPoly_ne s i j e hj

/-- `f` is what `t` has made of the descriptor `i` of `s`, and the others are as they were. -/
def MapsPoly (i : PolyIdx) (f : Poly → Poly) (s t : State) : Prop :=
  t.cfg = s.cfg ∧ ∀ j, t.getPoly j = if j = i then (s.getPoly j).map f else s.getPoly j

theorem mapsPoly_of_none {s : State} {i : PolyIdx} (f : Poly → Poly) (h : s.getPoly i = none) : MapsPoly i f s s := by
  refine ⟨rfl, fun j => ?_⟩
  split
  · next hj => rw [hj, h]; rfl
  · rfl

theorem mapsPoly_of_fixed {s : State} {i : PolyIdx} {f : Poly → Poly} {p : Poly} (h : s.getPoly i = some p) (hp : f p = p) :
    MapsPoly i f s s := by
  refine ⟨rfl, fun j => ?_⟩
  split
  · next hj => rw [hj, h, Option.map_some, hp]
  · rfl

theorem mapsPoly_of_set {s : State} {i : PolyIdx} {f : Poly → Poly} {p : Poly} (h : s.getPoly i = some p) (n : Nat) (b : Bool) :
    MapsPoly i f s { s.setPoly i (some (f p)) with draws := n, rinit := b } := by
  refine ⟨rfl, fun j => ?_⟩
  rw [show ({ s.setPoly i (some (f p)) with draws := n, rinit := b } : State).getPoly j =
    (s.setPoly i (some (f p))).getPoly j from rfl, getPoly_setPoly h]
  split
  · next hj => rw [hj, h]; rfl
  · rfl

theorem forceCoef_mapsPoly (s : State) (i : PolyIdx) (reduced : Bool) :
    MapsPoly i (forcedCoef s.cfg reduced s.draws) s (s.forceCoef i reduced) := by
  unfold State.forceCoef
  split
  · next h => exact mapsPoly_of_none _ h
  · next p h =>
    split
    · next hs => exact mapsPoly_of_fixed h (if_pos hs)
    · next hs =>
      have hf : forcedCoef s.cfg reduced s.draws p =
        { p with coef := some (openVec reduced (p.coefVec s.cfg) s.draws).1 } := if_neg hs
      have hm := mapsPoly_of_set (f := forcedCoef s.cfg reduced s.draws) h
        (openVec reduced (p.coefVec s.cfg) s.draws).2 true
      rwa [hf] at hm

theorem forcePoint_mapsPoly (s : State) (i : PolyIdx) (reduced : Bool) :
    MapsPoly i (forcedPoint s.cfg reduced s.draws) s (s.forcePoint i reduced) := by
  unfold State.forcePoint
  split
  · next h => exact mapsPoly_of_none _ h
  · next p h =>
    split
    · next hs => exact mapsPoly_of_fixed h (if_pos hs)
    · next hs =>
      have hf : forcedPoint s.cfg reduced s.draws p =
        { p with point := some (openVec reduced (p.pointVec s.cfg) s.draws).1 } := if_neg hs
      have hm := mapsPoly_of_set (f := forcedPoint s.cfg reduced s.draws) h
        (openVec reduced (p.pointVec s.cfg) s.draws).2 true
      rwa [hf] at hm

theorem extend_mapsPoly (s : State) (i : PolyIdx) (d : Nat) (reduced : Bool) :
    MapsPoly i (extended s.cfg d reduced s.draws) s (s.extend i d reduced) := by
  unfold State.extend
  split
  · next h => exact mapsPoly_of_none _ h
  · next p h =>
    split
    · next hd => exact mapsPoly_of_fixed h (if_pos hd)
    · next hd =>
      have hf : extended s.cfg d reduced s.draws p =
        ⟨d, some (openVec reduced (p.padded s.cfg d) s.draws).1, none⟩ := if_neg hd
      have hm := mapsPoly_of_set (f := extended s.cfg d reduced s.draws) h
        (openVec reduced (p.padded s.cfg d) s.draws).2 (s.rinit || p.coef.isNone)
      rwa [hf] at hm

/-! Statements about descriptors that the operations carry along -/

/-- Every valid descriptor satisfies `P`. -/
def AllPolys (P : Poly → Prop) (s : State) : Prop := ∀ j p, s.getPoly j = some p → P p

/-- The descriptor `i` is valid and satisfies `Q`. -/
def PolyAt (i : PolyIdx) (Q : Poly → Prop) (s : State) : Prop := ∃ p, s.getPoly i = some p ∧ Q p

section
variable {i j : PolyIdx} {f : Poly → Poly} {s t : State} {P Q Q' : Poly → Prop}

/-- A statement about every descriptor survives where `f` keeps it on the one changed. -/
theorem MapsPoly.allPolys (h : MapsPoly i f s t) (hs : AllPolys P s) (hP : ∀ p, s.getPoly i = some p → P p → P (f p)) :
    AllPolys P t := by
  intro k q hk
  rw [h.2] at hk
  split at hk
  · next hki =>
    obtain ⟨p, hp, rfl⟩ := Option.map_eq_some_iff.1 hk
    exact hP p (hki ▸ hp) (hs k p hp)
  · exact hs k q hk

/-- A statement about one descriptor survives a change that keeps it, of this descriptor or another. -/
theorem MapsPoly.polyAt (h : MapsPoly i f s t) (hs : PolyAt j Q s) (hQ : ∀ p, Q p → Q (f p)) : PolyAt j Q t := by
  obtain ⟨p, hp, hq⟩ := hs
  unfold PolyAt
  rw [h.2]
  split
  · exact ⟨f p, by rw [hp]; rfl, hQ p hq⟩
  · exact ⟨p, hp, hq⟩

/-- What the change makes of the descriptor changed. -/
theorem MapsPoly.polyAt_self (h : MapsPoly i f s t) (hs : PolyAt i Q s) (hQ : ∀ p, Q p → Q' (f p)) : PolyAt i Q' t := by
  obtain ⟨p, hp, hq⟩ := hs
  exact ⟨f p, by rw [h.2, if_pos rfl, hp]; rfl, hQ p hq⟩

theorem allPolys_setPoly (hs : AllPolys P s) (e : Option Poly) (he : ∀ p, e = some p → P p) (i : PolyIdx) :
    AllPolys P (s.setPoly i e) := by
  intro k q hk
  by_cases hki : k = i
  · subst hki
    by_cases hi : isPoly k = true
    · rw [getPoly_setPoly_same s k e hi] at hk
      exact he q hk
    · exact absurd (getPoly_isPoly hk) hi
  · rw [getPoly_setPoly_ne s i k e hki] at hk
    exact hs k q hk

end

/-! What a kept descriptor is -/

/-- A descriptor within its bounds and, where `strict` holds, of reduced elements with agreeing forms. -/
def PolyKept (c : Cfg) (strict : Prop) (p : Poly) : Prop := p.Ok c ∧ (strict → p.Faithful c)

section
variable {c : Cfg} {strict : Prop}

/-- Opening leaves a vector of reduced elements as it was. -/
theorem openVec_reduced {reduced : Bool} {v : List U256} (h : reduced = true) (n : Nat) : (openVec reduced v n).1 = v := by
  rw [h]
  rfl

theorem coefVec_length {p : Poly} (h : p.Ok c) : (p.coefVec c).length = p.degree := by
  unfold Poly.coefVec
  split
  · next v hv => exact h.coef v hv
  · exact (invFft_length _ _ _).trans (eq_two_pow_log2 h.pow2).symm

theorem pointVec_length {p : Poly} (h : p.Ok c) (hp : p.point = none) : (p.pointVec c).length = p.degree := by
  have hcoef : p.coef.isSome = true := by simpa [hp] using h.present
  obtain ⟨u, hu⟩ := Option.isSome_iff_exists.1 hcoef
  have hdeg := eq_two_pow_log2 h.pow2
  have hlen : u.length = 2 ^ p.degree.log2 := (h.coef u hu).trans hdeg
  simp only [Poly.pointVec, hp, hu, Option.getD_some]
  exact (recFft_length c _ u hlen).trans hdeg.symm

theorem padded_length {p : Poly} (h : p.Ok c) {d : Nat} (hd : p.degree ≤ d) : (p.padded c d).length = d := by
  rw [Poly.padded, List.length_append, coefVec_length h, List.length_replicate]
  omega

theorem coefVec_allReduced (hc : c.WellFormed) {p : Poly} (h : p.Faithful c) : allReduced c (p.coefVec c) = true := by
  unfold Poly.coefVec
  split
  · next v hv => exact h.1 v hv
  · exact invFft_allReduced hc _ _

theorem getD_allReduced {o : Option (List U256)} {v : List U256} (ho : ∀ u, o = some u → allReduced c u = true)
    (hv : allReduced c v = true) : allReduced c (o.getD v) = true := by
  cases o with
  | none => exact hv
  | some u => exact ho u rfl

theorem pointVec_allReduced (hc : c.WellFormed) {p : Poly} (h : p.Faithful c) : allReduced c (p.pointVec c) = true := by
  unfold Poly.pointVec
  split
  · next v hv => exact h.2.1 v hv
  · exact recFft_allReduced hc _ _ (getD_allReduced h.1 rfl)

/-- The elements a command reads from a kept descriptor are reduced. -/
theorem PolyKept.operands_reduced {p : Poly} (h : PolyKept c strict p) (hs : strict) :
    allReduced c p.coefOperands = true ∧ allReduced c p.pointOperands = true := by
  obtain ⟨hcoef, hpoint, -⟩ := h.2 hs
  exact ⟨getD_allReduced hcoef (getD_allReduced hpoint rfl), getD_allReduced hpoint (getD_allReduced hcoef rfl)⟩

/-- Forcing the coefficients: the points are the transform of their inverse transform. -/
theorem PolyKept.forcedCoef (hc : strict → c.WellFormed) {p : Poly} (h : PolyKept c strict p) {reduced : Bool}
    (hr : strict → reduced = true) (htrap : p.coefTrap c = none) (n : Nat) :
    PolyKept c strict (forcedCoef c reduced n p) := by
  unfold Proofs.forcedCoef
  split
  · exact h
  · next hnone =>
    have hcoef : p.coef = none := by simpa using hnone
    obtain ⟨hok, hfaith⟩ := h
    refine ⟨⟨hok.pow2, hok.fits, .inl rfl, ?_, hok.point⟩, fun hs => ?_⟩
    · rintro v ⟨⟩
      rw [openVec_length, coefVec_length hok]
    · obtain ⟨-, hpoint, -⟩ := hfaith hs
      refine ⟨?_, hpoint, ?_⟩
      · rintro v ⟨⟩
        rw [openVec_reduced (hr hs)]
        exact coefVec_allReduced (hc hs) (hfaith hs)
      · rintro u v ⟨⟩ hv
        have hdeg := eq_two_pow_log2 hok.pow2
        have hlog : p.degree.log2 ≤ c.maxLog := rootTrap_none (by simpa [Poly.coefTrap, hcoef] using htrap)
        have hinv : p.coefVec c = invFft c p.degree.log2 v := by simp [Poly.coefVec, hcoef, show p.point = some v from hv]
        rw [openVec_reduced (hr hs), hinv]
        exact (recFft_invFft (hc hs) hlog ((hok.point v hv).trans hdeg) (hpoint v hv)).symm

/-- Forcing the points: they are the transform of the coefficients. -/
theorem PolyKept.forcedPoint (hc : strict → c.WellFormed) {p : Poly} (h : PolyKept c strict p) {reduced : Bool}
    (hr : strict → reduced = true) (n : Nat) : PolyKept c strict (forcedPoint c reduced n p) := by
  unfold Proofs.forcedPoint
  split
  · exact h
  · next hnone =>
    have hpoint : p.point = none := by simpa using hnone
    obtain ⟨hok, hfaith⟩ := h
    refine ⟨⟨hok.pow2, hok.fits, .inr rfl, hok.coef, ?_⟩, fun hs => ?_⟩
    · rintro v ⟨⟩
      rw [openVec_length, pointVec_length hok hpoint]
    · refine ⟨(hfaith hs).1, ?_, ?_⟩
      · rintro v ⟨⟩
        rw [openVec_reduced (hr hs)]
        exact pointVec_allReduced (hc hs) (hfaith hs)
      · rintro u v hu ⟨⟩
        rw [openVec_reduced (hr hs)]
        simp [Poly.pointVec, hpoint, show p.coef = some u from hu]

/-- A new polynomial in one form. -/
theorem polyKept_coef {d : Nat} (hpow : isPow2 d = true) (hfit : d ≤ c.pMaxDeg) {v : List U256} (hlen : v.length = d)
    {reduced : Bool} (hr : strict → reduced = true) (hv : strict → allReduced c v = true) (n : Nat) :
    PolyKept c strict ⟨d, some (openVec reduced v n).1, none⟩ := by
  refine ⟨⟨hpow, hfit, .inl rfl, ?_, nofun⟩, fun hs => ⟨?_, nofun, nofun⟩⟩
  · rintro u ⟨⟩
    rw [openVec_length, hlen]
  · rintro u ⟨⟩
    rw [openVec_reduced (hr hs)]
    exact hv hs

theorem polyKept_point {d : Nat} (hpow : isPow2 d = true) (hfit : d ≤ c.pMaxDeg) {v : List U256} (hlen : v.length = d)
    {reduced : Bool} (hr : strict → reduced = true) (hv : strict → allReduced c v = true) (n : Nat) :
    PolyKept c strict ⟨d, none, some (openVec reduced v n).1⟩ := by
  refine ⟨⟨hpow, hfit, .inr rfl, nofun, ?_⟩, fun hs => ⟨nofun, ?_, nofun⟩⟩
  · rintro u ⟨⟩
    rw [openVec_length, hlen]
  · rintro u ⟨⟩
    rw [openVec_reduced (hr hs)]
    exact hv hs

/-- Extension drops the old points, so no form is left to disagree. -/
theorem PolyKept.extended (hc : strict → c.WellFormed) {p : Poly} (h : PolyKept c strict p) {reduced : Bool}
    (hr : strict → reduced = true) {d : Nat} (hpow : isPow2 d = true) (hle : p.degree ≤ d) (hfit : d ≤ c.pMaxDeg) (n : Nat) :
    PolyKept c strict (extended c d reduced n p) := by
  unfold Proofs.extended
  split
  · exact h
  · refine polyKept_coef hpow hfit (padded_length h.1 hle) hr (fun hs => ?_) n
    exact allReduced_append.2 ⟨coefVec_allReduced (hc hs) (h.2 hs), allReduced_zeros (hc hs) _⟩

/-- No check on the coefficients fails once an operation has made or kept them. -/
theorem coefTrap_of_isSome {p : Poly} (h : p.coef.isSome = true) : p.coefTrap c = none := by
  obtain ⟨v, hv⟩ := Option.isSome_iff_exists.1 h
  simp [Poly.coefTrap, hv]

theorem extended_coefTrap {p : Poly} (h : p.coefTrap c = none) (d : Nat) (reduced : Bool) (n : Nat) :
    (Proofs.extended c d reduced n p).coefTrap c = none := by
  unfold Proofs.extended
  split
  · exact h
  · rfl

end

end Sys2Proof.Proofs
end

section
/-! The commands on descriptors keep their bounds and the agreement of their forms (10_state.md R40, R41;
45_polynomial.md R263 to R278). -/

namespace Sys2Proof.Proofs

open Sys2Proof.Machine Sys2Proof.Laws

/-! Descriptors of a state -/

/-- The configuration is `c` and every valid descriptor is kept. -/
def PolysKept (c : Cfg) (strict : Prop) (s : State) : Prop := s.cfg = c ∧ AllPolys (PolyKept c strict) s

section
variable {c : Cfg} {strict : Prop} {s t : State} {i : PolyIdx} {reduced : Bool}

/-- Writing anything but the descriptors keeps them. -/
theorem PolysKept.of_pd_eq (h : PolysKept c strict s) (hcfg : t.cfg = s.cfg) (hpd : t.pd = s.pd) : PolysKept c strict t := by
  refine ⟨hcfg.trans h.1, fun j p hj => h.2 j p ?_⟩
  rwa [State.getPoly, hpd] at hj

theorem PolysKept.setPoly (h : PolysKept c strict s) (i : PolyIdx) (e : Option Poly)
    (he : ∀ p, e = some p → PolyKept c strict p) : PolysKept c strict (s.setPoly i e) :=
  ⟨h.1, allPolys_setPoly h.2 e he i⟩

theorem PolysKept.forceCoef (hc : strict → c.WellFormed) (h : PolysKept c strict s) (hr : strict → reduced = true)
    (ht : PolyAt i (fun p => p.coefTrap c = none) s) : PolysKept c strict (s.forceCoef i reduced) := by
  obtain ⟨rfl, hall⟩ := h
  obtain ⟨p, hp, htrap⟩ := ht
  have hm := forceCoef_mapsPoly s i reduced
  refine ⟨hm.1, hm.allPolys hall fun q hq hkept => hkept.forcedCoef hc hr ?_ _⟩
  cases hp.symm.trans hq
  exact htrap

theorem PolysKept.forcePoint (hc : strict → c.WellFormed) (h : PolysKept c strict s) (hr : strict → reduced = true)
    (i : PolyIdx) : PolysKept c strict (s.forcePoint i reduced) := by
  obtain ⟨rfl, hall⟩ := h
  have hm := forcePoint_mapsPoly s i reduced
  exact ⟨hm.1, hm.allPolys hall fun q _ hkept => hkept.forcedPoint hc hr _⟩

theorem PolysKept.extend (hc : strict → c.WellFormed) (h : PolysKept c strict s) (hr : strict → reduced = true) {d : Nat}
    (hpow : isPow2 d = true) (hfit : d ≤ c.pMaxDeg) (hle : PolyAt i (fun p => p.degree ≤ d) s) :
    PolysKept c strict (s.extend i d reduced) := by
  obtain ⟨rfl, hall⟩ := h
  obtain ⟨p, hp, hdeg⟩ := hle
  have hm := extend_mapsPoly s i d reduced
  refine ⟨hm.1, hm.allPolys hall fun q hq hkept => hkept.extended hc hr hpow ?_ hfit _⟩
  cases hp.symm.trans hq
  exact hdeg

theorem PolysKept.newCoef (h : PolysKept c strict s) (hr : strict → reduced = true) {d : Nat} (hpow : isPow2 d = true)
    (hfit : d ≤ c.pMaxDeg) {v : List U256} (hlen : v.length = d) (hv : strict → allReduced c v = true) (i : PolyIdx) :
    PolysKept c strict (s.newCoef i reduced d v) := by
  refine (h.setPoly i _ ?_).of_pd_eq rfl rfl
  rintro p ⟨⟩
  exact polyKept_coef hpow hfit hlen hr hv _

theorem PolysKept.newPoint (h : PolysKept c strict s) (hr : strict → reduced = true) {d : Nat} (hpow : isPow2 d = true)
    (hfit : d ≤ c.pMaxDeg) {v : List U256} (hlen : v.length = d) (hv : strict → allReduced c v = true) (i : PolyIdx) :
    PolysKept c strict (s.newPoint i reduced d v) := by
  refine (h.setPoly i _ ?_).of_pd_eq rfl rfl
  rintro p ⟨⟩
  exact polyKept_point hpow hfit hlen hr hv _

/-! Reading a form out after it was forced -/

/-- A descriptor of degree `d` with its coefficients present. -/
def CoefReady (d : Nat) (p : Poly) : Prop := p.degree = d ∧ p.coef.isSome = true

/-- A descriptor of degree `d` with its points present. -/
def PointReady (d : Nat) (p : Poly) : Prop := p.degree = d ∧ p.point.isSome = true

theorem PolysKept.coefOf (h : PolysKept c strict s) {d : Nat} (hp : PolyAt i (CoefReady d) s) :
    (s.coefOf i).length = d ∧ (strict → allReduced c (s.coefOf i) = true) := by
  obtain ⟨p, hp, hdeg, hsome⟩ := hp
  obtain ⟨v, hv⟩ := Option.isSome_iff_exists.1 hsome
  have hread : s.coefOf i = v := by simp [State.coefOf, hp, hv]
  obtain ⟨hok, hfaith⟩ := h.2 i p hp
  rw [hread]
  exact ⟨(hok.coef v hv).trans hdeg, fun hs => (hfaith hs).1 v hv⟩

theorem PolysKept.pointOf (h : PolysKept c strict s) {d : Nat} (hp : PolyAt i (PointReady d) s) :
    (s.pointOf i).length = d ∧ (strict → allReduced c (s.pointOf i) = true) := by
  obtain ⟨p, hp, hdeg, hsome⟩ := hp
  obtain ⟨v, hv⟩ := Option.isSome_iff_exists.1 hsome
  have hread : s.pointOf i = v := by simp [State.pointOf, hp, hv]
  obtain ⟨hok, hfaith⟩ := h.2 i p hp
  rw [hread]
  exact ⟨(hok.point v hv).trans hdeg, fun hs => (hfaith hs).2.1 v hv⟩

theorem coefReady_forceCoef {d : Nat} (hp : PolyAt i (fun p => p.degree = d) s) (reduced : Bool) :
    PolyAt i (CoefReady d) (s.forceCoef i reduced) :=
  (forceCoef_mapsPoly s i reduced).polyAt_self hp fun p hd => ⟨(forcedCoef_degree _ _ _ p).trans hd, forcedCoef_isSome _ _ _ p⟩

theorem pointReady_forcePoint {d : Nat} (hp : PolyAt i (fun p => p.degree = d) s) (reduced : Bool) :
    PolyAt i (PointReady d) (s.forcePoint i reduced) :=
  (forcePoint_mapsPoly s i reduced).polyAt_self hp fun p hd =>
    ⟨(forcedPoint_degree _ _ _ p).trans hd, forcedPoint_isSome _ _ _ p⟩

/-! Addition and multiplication -/

/-- Extension to `d` of both sources of a command. -/
theorem PolysKept.extend_both (hc : strict → c.WellFormed) (h : PolysKept c strict s) (hr : strict → reduced = true) {d : Nat}
    (hpow : isPow2 d = true) (hfit : d ≤ c.pMaxDeg) {pa pb : PolyIdx} (ha : PolyAt pa (fun p => p.degree ≤ d) s)
    (hb : PolyAt pb (fun p => p.degree ≤ d) s) :
    PolysKept c strict ((s.extend pa d reduced).extend pb d reduced) ∧
      PolyAt pa (fun p => p.degree = d) ((s.extend pa d reduced).extend pb d reduced) ∧
      PolyAt pb (fun p => p.degree = d) ((s.extend pa d reduced).extend pb d reduced) := by
  have hm1 := extend_mapsPoly s pa d reduced
  have hm2 := extend_mapsPoly (s.extend pa d reduced) pb d reduced
  have ha1 := hm1.polyAt_self (Q' := fun p => p.degree = d) ha fun p _ => extended_degree _ d _ _ p
  have hb1 := hm1.polyAt hb fun p _ => (extended_degree _ d _ _ p).le
  exact ⟨(h.extend hc hr hpow hfit ha).extend hc hr hpow hfit hb1,
    hm2.polyAt ha1 fun p _ => extended_degree _ d _ _ p, hm2.polyAt_self hb1 fun p _ => extended_degree _ d _ _ p⟩

theorem coefTrap_extend {d : Nat} {j : PolyIdx} (ht : PolyAt j (fun p => p.coefTrap c = none) s) (hcfg : s.cfg = c)
    (i : PolyIdx) (reduced : Bool) : PolyAt j (fun p => p.coefTrap c = none) (s.extend i d reduced) := by
  subst hcfg
  exact (extend_mapsPoly s i d reduced).polyAt ht fun p hp => extended_coefTrap hp d _ _

theorem coefTrap_forceCoef {j : PolyIdx} (ht : PolyAt j (fun p => p.coefTrap c = none) s) (i : PolyIdx) (reduced : Bool) :
    PolyAt j (fun p => p.coefTrap c = none) (s.forceCoef i reduced) :=
  (forceCoef_mapsPoly s i reduced).polyAt ht fun p _ => coefTrap_of_isSome (forcedCoef_isSome _ _ _ p)

/-- A vector made element by element from two of degree `d`. -/
theorem zipWith_length_eq {f : U256 → U256 → U256} {u v : List U256} {d : Nat} (hu : u.length = d) (hv : v.length = d) :
    (List.zipWith f u v).length = d := by
  simp [hu, hv]

theorem isPow2_max {a b : Nat} (ha : isPow2 a = true) (hb : isPow2 b = true) : isPow2 (max a b) = true := by
  rcases max_choice a b with h | h <;> rw [h] <;> assumption

theorem isPow2_double {a : Nat} (ha : isPow2 a = true) : isPow2 (2 * a) = true := by
  obtain ⟨k, rfl⟩ := (isPow2_iff a).1 ha
  rw [← pow_succ']
  exact isPow2_pow _

section
variable {pa pb : PolyIdx} {p q : Poly}

/-- The elements both sources of a command are read for are reduced. -/
theorem PolysKept.sources_reduced (h : PolysKept c strict s) (hp : s.getPoly pa = some p) (hq : s.getPoly pb = some q)
    (hs : strict) : (allReduced c p.coefOperands && allReduced c q.coefOperands) = true := by
  rw [((h.2 pa p hp).operands_reduced hs).1, ((h.2 pb q hq).operands_reduced hs).1, Bool.and_self]

theorem PolysKept.paddEffect (hc : strict → s.cfg.WellFormed) (h : PolysKept s.cfg strict s) (hp : s.getPoly pa = some p)
    (hq : s.getPoly pb = some q) (htp : p.coefTrap s.cfg = none) (htq : q.coefTrap s.cfg = none) (pd : PolyIdx) :
    PolysKept s.cfg strict (paddEffect s pd pa pb p q) := by
  have hr := h.sources_reduced hp hq
  have hpok := (h.2 pa p hp).1
  have hqok := (h.2 pb q hq).1
  have hpow := isPow2_max hpok.pow2 hqok.pow2
  have hfit : max p.degree q.degree ≤ s.cfg.pMaxDeg := max_le hpok.fits hqok.fits
  unfold Machine.paddEffect
  dsimp only
  generalize (allReduced s.cfg p.coefOperands && allReduced s.cfg q.coefOperands) = ok at hr ⊢
  obtain ⟨h2, hda, hdb⟩ :=
    h.extend_both hc hr hpow hfit ⟨p, hp, le_max_left _ q.degree⟩ ⟨q, hq, le_max_right p.degree _⟩
  have hta := coefTrap_extend (coefTrap_extend ⟨p, hp, htp⟩ rfl pa ok (d := max p.degree q.degree))
    (extend_mapsPoly s pa _ ok).1 pb ok (d := max p.degree q.degree)
  have htb := coefTrap_extend (coefTrap_extend ⟨q, hq, htq⟩ rfl pa ok (d := max p.degree q.degree))
    (extend_mapsPoly s pa _ ok).1 pb ok (d := max p.degree q.degree)
  generalize (s.extend pa (max p.degree q.degree) ok).extend pb (max p.degree q.degree) ok = s2 at *
  have hm3 := forceCoef_mapsPoly s2 pa ok
  have hm4 := forceCoef_mapsPoly (s2.forceCoef pa ok) pb ok
  have h4 := (h2.forceCoef hc hr hta).forceCoef hc hr (coefTrap_forceCoef htb pa ok)
  have hdb3 := hm3.polyAt hdb fun x hx => (forcedCoef_degree _ _ _ x).trans hx
  have hra := hm4.polyAt (coefReady_forceCoef hda ok) fun x hx =>
    ⟨(forcedCoef_degree _ _ _ x).trans hx.1, forcedCoef_isSome _ _ _ x⟩
  obtain ⟨hla, hva⟩ := h4.coefOf hra
  obtain ⟨hlb, hvb⟩ := h4.coefOf (coefReady_forceCoef hdb3 ok)
  refine h4.newCoef hr hpow hfit (zipWith_length_eq hla hlb) (fun hs => ?_) pd
  exact allReduced_zipWith fun a ha b hb =>
    monAdd_lt (hc hs) ((allReduced_iff _ _).1 (hva hs) a ha) ((allReduced_iff _ _).1 (hvb hs) b hb)

theorem PolysKept.pmulEffect (hc : strict → s.cfg.WellFormed) (h : PolysKept s.cfg strict s) (hp : s.getPoly pa = some p)
    (hq : s.getPoly pb = some q) (hfit : 2 * max p.degree q.degree ≤ s.cfg.pMaxDeg) (pd : PolyIdx) :
    PolysKept s.cfg strict (pmulEffect s pd pa pb p q) := by
  have hr := h.sources_reduced hp hq
  have hpow := isPow2_double (isPow2_max (h.2 pa p hp).1.pow2 (h.2 pb q hq).1.pow2)
  unfold Machine.pmulEffect
  dsimp only
  generalize (allReduced s.cfg p.coefOperands && allReduced s.cfg q.coefOperands) = ok at hr ⊢
  obtain ⟨h2, hda, hdb⟩ := h.extend_both hc hr hpow hfit ⟨p, hp, by omega⟩ ⟨q, hq, by omega⟩
  generalize (s.extend pa (2 * max p.degree q.degree) ok).extend pb (2 * max p.degree q.degree) ok = s2 at *
  have hm3 := forcePoint_mapsPoly s2 pa ok
  have hm4 := forcePoint_mapsPoly (s2.forcePoint pa ok) pb ok
  have h4 := (h2.forcePoint hc hr pa).forcePoint hc hr pb
  have hdb3 := hm3.polyAt hdb fun x hx => (forcedPoint_degree _ _ _ x).trans hx
  have hra := hm4.polyAt (pointReady_forcePoint hda ok) fun x hx =>
    ⟨(forcedPoint_degree _ _ _ x).trans hx.1, forcedPoint_isSome _ _ _ x⟩
  obtain ⟨hla, hva⟩ := h4.pointOf hra
  obtain ⟨hlb, -⟩ := h4.pointOf (pointReady_forcePoint hdb3 ok)
  refine h4.newPoint hr hpow hfit (zipWith_length_eq hla hlb) (fun hs => ?_) pd
  exact allReduced_zipWith fun a ha b _ => monPro_lt (hc hs) ((allReduced_iff _ _).1 (hva hs) a ha) b

end

/-! The checks of the polynomial commands -/

theorem pnewTrap_none {pd : PolyIdx} {src count : Word} (h : pnewTrap s pd src count = none) :
    ceilPow2 count.toNat ≤ s.cfg.pMaxDeg := by
  unfold pnewTrap at h
  split_ifs at h
  omega

theorem pnewpTrap_none {pd : PolyIdx} {src len : Word} (h : pnewpTrap s pd src len = none) :
    isPow2 len.toNat = true ∧ len.toNat ≤ s.cfg.pMaxDeg := by
  unfold pnewpTrap at h
  split_ifs at h with h1 h2 h3
  exact ⟨by simpa using h2, by omega⟩

theorem pextTrap_none {p : Poly} {d : Nat} (h : pextTrap s p d = none) :
    isPow2 d = true ∧ p.degree ≤ d ∧ d ≤ s.cfg.pMaxDeg := by
  unfold pextTrap at h
  split_ifs at h with h1 h2 <;>
  · obtain ⟨hpow, hle⟩ : isPow2 d = true ∧ p.degree ≤ d := by simpa using h1
    exact ⟨hpow, hle, by omega⟩

theorem pmulTrap_none {d : Nat} (h : pmulTrap c d = none) : d ≤ c.pMaxDeg := by
  unfold pmulTrap at h
  split_ifs at h
  omega

/-- Writing an element register keeps the descriptors. -/
theorem PolysKept.putElem (h : PolysKept c strict s) (r : RegIdx) (b : Bool) (v : U256) :
    PolysKept c strict (s.putElem r b v) :=
  have hf : Confined (.fzero r) s (s.putElem r b v) := .putElem rfl s b v
  h.of_pd_eq hf.cfg (hf.pd rfl)

end

/-- The bodies of the polynomial commands keep the descriptors. -/
theorem bodyEnsures_polysKept {strict : Prop} {i : Instr} {s : State} (hc : strict → s.cfg.WellFormed)
    (h : PolysKept s.cfg strict s) (hnew : strict → createsReduced i s) (hi : touchesPolys i = true) :
    BodyEnsures i s (PolysKept s.cfg strict) := by
  have operands : ∀ {j p}, s.getPoly j = some p → strict →
      allReduced s.cfg p.coefOperands = true ∧ allReduced s.cfg p.pointOperands = true :=
    fun hp hs => (h.2 _ _ hp).operands_reduced hs
  cases i with
  | pnew pd src count =>
    refine ⟨_, rfl, ensures_guarded fun ht => ?_⟩
    obtain ⟨hpow, hle⟩ := ceilPow2_spec count.toNat
    refine h.newCoef hnew hpow (pnewTrap_none ht) ?_ (fun hs => ?_) pd
    · rw [List.length_append, memRead_length, List.length_replicate]
      omega
    · exact allReduced_append.2 ⟨hnew hs, allReduced_zeros (hc hs) _⟩
  | pnewp pd src len =>
    refine ⟨_, rfl, ensures_guarded fun ht => ?_⟩
    obtain ⟨hpow, hfit⟩ := pnewpTrap_none ht
    exact h.newPoint hnew hpow hfit (memRead_length _ _ _) hnew pd
  | pext pd newDegree =>
    refine ⟨_, rfl, ensures_onPoly fun p hp => ensures_guarded fun ht => ?_⟩
    obtain ⟨hpow, hle, hfit⟩ := pextTrap_none ht
    exact h.extend hc (fun hs => (operands hp hs).1) hpow hfit ⟨p, hp, hle⟩
  | padd pd pa pb =>
    refine ⟨_, rfl, ensures_onPoly fun p hp => ensures_onPoly fun q hq => ensures_guarded fun ht => ?_⟩
    obtain ⟨-, htp, htq⟩ := by simpa only [Option.or_eq_none_iff] using ht
    exact h.paddEffect hc hp hq htp htq pd
  | pmul pd pa pb =>
    refine ⟨_, rfl, ensures_onPoly fun p hp => ensures_onPoly fun q hq => ensures_guarded fun ht => ?_⟩
    obtain ⟨-, hmul⟩ := Option.or_eq_none_iff.1 ht
    exact h.pmulEffect hc hp hq (pmulTrap_none hmul) pd
  | peval fd pa fx =>
    refine ⟨_, rfl, ensures_onPoly fun p hp => ensures_guarded fun ht => ?_⟩
    refine (h.forceCoef hc (fun hs => ?_) ⟨p, hp, ht⟩).putElem fd _ _
    rw [(operands hp hs).1, show isReduced s.cfg (s.getF fx) = true from hnew hs, Bool.and_self]
  | pcoef pd =>
    exact ⟨_, rfl, ensures_onPoly fun p hp => ensures_guarded fun ht =>
      h.forceCoef hc (fun hs => (operands hp hs).1) ⟨p, hp, ht⟩⟩
  | ppoint pd =>
    exact ⟨_, rfl, ensures_onPoly fun p hp => ensures_guarded fun _ =>
      h.forcePoint hc (fun hs => (operands hp hs).2) pd⟩
  | pstc pa dst =>
    refine ⟨_, rfl, ensures_onPoly fun p hp => ensures_guarded fun ht => ?_⟩
    obtain ⟨htp, -⟩ := Option.or_eq_none_iff.1 ht
    exact (h.forceCoef hc (fun hs => (operands hp hs).1) ⟨p, hp, htp⟩).of_pd_eq rfl rfl
  | pstp pa dst =>
    exact ⟨_, rfl, ensures_onPoly fun p hp => ensures_guarded fun _ =>
      (h.forcePoint hc (fun hs => (operands hp hs).2) pa).of_pd_eq rfl rfl⟩
  | pfree pd => exact ⟨_, rfl, ensures_ok (h.setPoly pd none nofun)⟩
  | _ => cases hi

/-- Every command keeps the descriptors. -/
theorem exec_polysKept {strict : Prop} {i : Instr} {s t : State} (hc : strict → s.cfg.WellFormed)
    (h : PolysKept s.cfg strict s) (hnew : strict → createsReduced i s) (hs : exec i s = .next t) :
    PolysKept s.cfg strict t := by
  by_cases hi : touchesPolys i = true
  · rcases (bodyEnsures_polysKept hc h hnew hi).next_cases hs with ⟨u, hu, rfl⟩ | ⟨tr, rfl⟩
    · exact hu.of_pd_eq rfl rfl
    · exact h.of_pd_eq rfl rfl
  · rcases exec_cases hs with ⟨u, hu, rfl⟩ | ⟨tr, rfl⟩
    · exact h.of_pd_eq hu.cfg (hu.pd (by simpa using hi))
    · exact h.of_pd_eq rfl rfl

/-- Settles O59: the descriptors stay kept with `strict` true. -/
theorem polynomialFormsStayEqual : Obligations.PolynomialFormsStayEqual := by
  intro i s t hc hinv hfaith hnew hs
  have h : PolysKept s.cfg True s := ⟨rfl, fun j p hp => ⟨hinv.polys j p hp, fun _ => hfaith j p hp⟩⟩
  obtain ⟨hcfg, hall⟩ := exec_polysKept (fun _ => hc) h (fun _ => hnew) hs
  intro j p hp
  rw [hcfg]
  exact (hall j p hp).2 trivial

end Sys2Proof.Proofs
end

section
/-! Every step keeps the configuration and the invariant (10_state.md R27, R28, R30, R39, R40, R42;
70_reset_and_hazards.md R344). -/

namespace Sys2Proof.Proofs

open Sys2Proof.Machine Sys2Proof.Laws

/-! The vector memory under the commands -/

/-- The length of the vector a transform stores. -/
theorem recFft_memRead_length (s : State) (src : Nat) {n : Nat} (hn : isPow2 n = true) :
    (recFft s.cfg n.log2 (s.memRead src n)).length = n :=
  have hpow := eq_two_pow_log2 hn
  (recFft_length _ _ _ ((memRead_length s src n).trans hpow)).trans hpow.symm

/-- A vector stored after work that left the memory alone. -/
theorem VmOk.putVec_of_same {s t : State} (h : VmOk s.cfg s.vm) (hcfg : t.cfg = s.cfg) (hvm : t.vm = s.vm) {addr : Nat}
    (reduced : Bool) {v : List U256} (hfit : addr + v.length ≤ s.cfg.vmSize) :
    VmOk s.cfg (t.putVec addr reduced v).vm := by
  rw [← hcfg, ← hvm] at h
  rw [← hcfg] at hfit ⊢
  exact h.putVec reduced hfit

/-- The bodies of the storing commands keep the memory in form. -/
theorem bodyEnsures_vmOk {i : Instr} {s : State} (h : s.Inv) (hi : touchesVm i = true) :
    BodyEnsures i s fun u => VmOk s.cfg u.vm := by
  have hvm : VmOk s.cfg s.vm := ⟨h.memory_wf, h.memory_fits⟩
  have hk : PolysKept s.cfg False s := ⟨rfl, fun j p hp => ⟨h.polys j p hp, nofun⟩⟩
  cases i with
  | ste fa addr => exact ⟨_, rfl, ensures_guarded fun ht => hvm.memWrite (boundsTrap_none ht)⟩
  | fftrec src dst len =>
    refine ⟨_, rfl, ensures_guarded fun ht => hvm.putVec _ ?_⟩
    obtain ⟨hpow, -, hfit⟩ := transformTrap_none ht
    rwa [recFft_memRead_length s src.toNat hpow]
  | fftr2 fw src dst len =>
    refine ⟨_, rfl, ensures_guarded fun ht => hvm.putVec _ ?_⟩
    obtain ⟨hpow, -, hfit⟩ := transformTrap_none ht
    rwa [radix2Fft_length, ← eq_two_pow_log2 hpow]
  | fft4 logRows logCols src dst len =>
    refine ⟨_, rfl, ensures_guarded fun ht => hvm.putVec _ ?_⟩
    obtain ⟨-, hshape, hfit⟩ := transformTrap_none ht
    rwa [fourStep_length, pow_add, shapeTrap_none hshape]
  | ifft src dst len =>
    refine ⟨_, rfl, ensures_guarded fun ht => hvm.putVec _ ?_⟩
    obtain ⟨hpow, -, hfit⟩ := transformTrap_none ht
    rwa [invFft_length, ← eq_two_pow_log2 hpow]
  | jst js dst =>
    refine ⟨_, rfl, ?_⟩
    split
    · exact ensures_error _
    · exact ensures_guarded fun ht => hvm.putVec _ (boundsTrap_none ht)
  | pstc pa dst =>
    refine ⟨_, rfl, ensures_onPoly fun p hp => ensures_guarded fun ht => ?_⟩
    obtain ⟨htp, hfit⟩ := Option.or_eq_none_iff.1 ht
    have hkept := hk.forceCoef (reduced := allReduced s.cfg p.coefOperands) nofun nofun ⟨p, hp, htp⟩
    have hlen := (hkept.coefOf (coefReady_forceCoef ⟨p, hp, rfl⟩ _)).1
    have hf : Confined (.pcoef pa) s (s.forceCoef pa (allReduced s.cfg p.coefOperands)) := .forceCoef rfl _ _ _
    exact hvm.putVec_of_same hf.cfg (hf.vm rfl) _ (hlen ▸ boundsTrap_none hfit)
  | pstp pa dst =>
    refine ⟨_, rfl, ensures_onPoly fun p hp => ensures_guarded fun ht => ?_⟩
    obtain ⟨-, hfit⟩ := Option.or_eq_none_iff.1 ht
    have hkept := hk.forcePoint (reduced := allReduced s.cfg p.pointOperands) nofun nofun pa
    have hlen := (hkept.pointOf (pointReady_forcePoint ⟨p, hp, rfl⟩ _)).1
    have hf : Confined (.ppoint pa) s (s.forcePoint pa (allReduced s.cfg p.pointOperands)) := .forcePoint rfl _ _ _
    exact hvm.putVec_of_same hf.cfg (hf.vm rfl) _ (hlen ▸ boundsTrap_none hfit)
  | _ => cases hi

theorem exec_vmOk {i : Instr} {s t : State} (h : s.Inv) (hs : exec i s = .next t) : VmOk s.cfg t.vm := by
  have hvm : VmOk s.cfg s.vm := ⟨h.memory_wf, h.memory_fits⟩
  by_cases hi : touchesVm i = true
  · rcases (bodyEnsures_vmOk h hi).next_cases hs with ⟨u, hu, rfl⟩ | ⟨tr, rfl⟩
    · exact hu
    · exact hvm
  · rcases exec_cases hs with ⟨u, hu, rfl⟩ | ⟨tr, rfl⟩
    · rw [complete_vm, hu.vm (by simpa using hi)]
      exact hvm
    · exact hvm

theorem exec_jobsOk {i : Instr} {s t : State} (h : s.Inv) (hs : exec i s = .next t) : JobsOk s.cfg t := by
  have hjobs : JobsOk s.cfg s := h.jobs
  by_cases hi : touchesJobs i = true
  · rcases (bodyEnsures_jobsOk hjobs hi).next_cases hs with ⟨u, hu, rfl⟩ | ⟨tr, rfl⟩
    · exact hu
    · exact hjobs
  · rcases exec_cases hs with ⟨u, hu, rfl⟩ | ⟨tr, rfl⟩
    · intro j e he
      refine hjobs j e ?_
      rwa [State.getJob, complete_jt, hu.jt (by simpa using hi)] at he
    · exact hjobs

/-! The fault bit, the cause and `BUSY` -/

/-- The part of the invariant that speaks of faults (10_state.md R27, R28). -/
structure FaultOk (s : State) : Prop where
  fault_iff : s.fault = true ↔ s.frec.cause ≠ 0
  cause_le : s.frec.cause.toNat ≤ 15
  not_both : s.fault = true → s.busy = false

theorem cause_code_range (c : Cause) : c.code ≠ 0 ∧ c.code.toNat ≤ 15 := by cases c <;> decide

theorem faultOk_raise (tr : Trap) (s : State) : FaultOk (raise tr s) :=
  ⟨iff_of_true rfl (cause_code_range tr.cause).1, (cause_code_range tr.cause).2, fun _ => rfl⟩

theorem exec_cfg {i : Instr} {s t : State} (hs : exec i s = .next t) : t.cfg = s.cfg := by
  rcases exec_cases hs with ⟨u, hu, rfl⟩ | ⟨tr, rfl⟩
  · exact hu.cfg
  · rfl

theorem exec_faultOk {i : Instr} {s t : State} (h : s.Inv) (hs : exec i s = .next t) : FaultOk t := by
  rcases exec_cases hs with ⟨u, hu, rfl⟩ | ⟨tr, rfl⟩
  · have hfault : u.fault = s.fault := congrArg Control.fault hu.control
    have hrec : u.frec = s.frec := congrArg Control.frec hu.control
    refine ⟨?_, ?_, fun _ => rfl⟩
    · rw [complete_fault, complete_frec, hfault, hrec]
      exact h.fault_iff
    · rw [complete_frec, hrec]
      exact h.cause_le
  · exact faultOk_raise tr s

/-! Every step -/

/-- Every command keeps the invariant. -/
theorem exec_inv {i : Instr} {s t : State} (h : s.Inv) (hs : exec i s = .next t) : t.Inv := by
  obtain ⟨hwf, hfits⟩ := exec_vmOk h hs
  have hjobs := exec_jobsOk h hs
  have hk : PolysKept s.cfg False s := ⟨rfl, fun j p hp => ⟨h.polys j p hp, nofun⟩⟩
  obtain ⟨hcfg, hpolys⟩ := exec_polysKept nofun hk nofun hs
  obtain ⟨hiff, hle, hboth⟩ := exec_faultOk h hs
  refine ⟨hwf, ?_, ?_, ?_, hiff, hle, hboth⟩ <;> rw [hcfg]
  · exact hfits
  · exact hjobs
  · exact fun j p hp => (hpolys j p hp).1

/-- The invariant speaks of nothing a host's move writes but the memory and `BUSY`. -/
theorem inv_of_same_tables {s t : State} (h : s.Inv) (hcfg : t.cfg = s.cfg) (hvm : VmOk s.cfg t.vm) (hjt : t.jt = s.jt)
    (hpd : t.pd = s.pd) (hfault : t.fault = s.fault) (hrec : t.frec = s.frec) (hbusy : t.fault = true → t.busy = false) :
    t.Inv where
  memory_wf := hvm.1
  memory_fits := by rw [hcfg]; exact hvm.2
  jobs j e he := by
    rw [hcfg]
    exact h.jobs j e (by rwa [State.getJob, hjt] at he)
  polys p q hq := by
    rw [hcfg]
    exact h.polys p q (by rwa [State.getPoly, hpd] at hq)
  fault_iff := by rw [hfault, hrec]; exact h.fault_iff
  cause_le := by rw [hrec]; exact h.cause_le
  not_both := hbusy

/-- What a step keeps: the configuration, and the invariant where it holds. -/
def Keeps (s t : State) : Prop := t.cfg = s.cfg ∧ (s.Inv → t.Inv)

theorem Keeps.trans {s t u : State} (h : Keeps s t) (k : Keeps t u) : Keeps s u :=
  ⟨k.1.trans h.1, fun hs => k.2 (h.2 hs)⟩

/-- A change of the host's side keeps the invariant, if it does not set `BUSY` on a faulted CORE. -/
theorem keeps_of_same_tables {s t : State} (hcfg : t.cfg = s.cfg) (hvm : t.vm = s.vm) (hjt : t.jt = s.jt) (hpd : t.pd = s.pd)
    (hfault : t.fault = s.fault) (hrec : t.frec = s.frec) (hbusy : t.busy = s.busy ∨ s.fault = false) : Keeps s t := by
  refine ⟨hcfg, fun h => inv_of_same_tables h hcfg ?_ hjt hpd hfault hrec fun ht => ?_⟩
  · rw [hvm]
    exact ⟨h.memory_wf, h.memory_fits⟩
  · rw [hfault] at ht
    rcases hbusy with hb | hf
    · exact hb.trans (h.not_both ht)
    · exact absurd (hf.symm.trans ht) nofun

/-- A command is captured by an idle CORE only (10_state.md R44). -/
theorem keeps_issue (s : State) (v : Word) : Keeps s (issue s v) := by
  unfold issue
  split
  · next hidle =>
    have hboth : s.busy = false ∧ s.fault = false := by simpa [State.idle] using hidle
    exact keeps_of_same_tables rfl rfl rfl rfl rfl rfl (.inr hboth.2)
  · exact ⟨rfl, id⟩

theorem keeps_csrWrite (s : State) (n : Nat) (v : Word) : Keeps s (csrWrite s n v) := by
  unfold csrWrite
  split_ifs
  · exact keeps_of_same_tables rfl rfl rfl rfl rfl rfl (.inl rfl)
  · exact keeps_of_same_tables rfl rfl rfl rfl rfl rfl (.inl rfl)
  · exact keeps_of_same_tables rfl rfl rfl rfl rfl rfl (.inl rfl)
  · exact keeps_issue s v
  · exact ⟨rfl, id⟩

/-- Delivering a word to the host. -/
theorem keeps_rdata (s : State) (v : Word) : Keeps s { s with rdata := v } :=
  keeps_of_same_tables rfl rfl rfl rfl rfl rfl (.inl rfl)

theorem keeps_hostMemRead {s t : State} {slot i : Nat} (h : hostMemRead s slot i = .next t) : Keeps s t := by
  unfold hostMemRead at h
  split_ifs at h
  cases h
  exact keeps_rdata s _

theorem keeps_hostMemWrite {s t : State} {slot i : Nat} {v : Word} (h : hostMemWrite s slot i v = .next t) : Keeps s t := by
  unfold hostMemWrite at h
  split_ifs at h with hin
  cases h
  refine ⟨rfl, fun hs => inv_of_same_tables hs rfl ?_ rfl rfl rfl rfl hs.not_both⟩
  have hvm : VmOk s.cfg s.vm := ⟨hs.memory_wf, hs.memory_fits⟩
  exact hvm.writeLimb hin.1 hin.2 v

/-- Every move of the host keeps the invariant. -/
theorem keeps_hostMove {m : HostMove} {s t : State} (h : hostMove m s = .next t) : Keeps s t := by
  cases m with
  | reset =>
    cases h
    exact ⟨rfl, fun _ => resetCore_inv s⟩
  | regRead n =>
    cases h
    exact keeps_rdata s _
  | regWrite n v =>
    cases h
    exact keeps_csrWrite s n v
  | memRead slot i => exact keeps_hostMemRead h
  | memWrite slot i v => exact keeps_hostMemWrite h
  | busRead addr width =>
    simp only [hostMove] at h
    split_ifs at h
    split at h
    · cases h
      exact keeps_rdata s _
    · exact keeps_hostMemRead h
    · cases h
  | busWrite addr width v =>
    simp only [hostMove] at h
    split_ifs at h
    split at h
    · cases h
      exact keeps_csrWrite s _ v
    · exact keeps_hostMemWrite h
    · cases h

/-- A move leaves the list of moves before it acts. -/
theorem keeps_takeMove {m : HostMove} {rest : List HostMove} {s t : State} (h : takeMove m rest s = .next t) : Keeps s t := by
  have hleft : Keeps s { s with host := rest, draws := if s.busy then s.draws + 1 else s.draws } :=
    keeps_of_same_tables rfl rfl rfl rfl rfl rfl (.inl rfl)
  have hmove : hostMove m { s with host := rest, draws := if s.busy then s.draws + 1 else s.draws } = .next t := h
  exact hleft.trans (keeps_hostMove hmove)

theorem keeps_illegalCommand {s t : State} (h : illegalCommand s = .next t) : Keeps s t := by
  cases h
  refine ⟨rfl, fun hs => ?_⟩
  obtain ⟨hiff, hle, hboth⟩ := faultOk_raise (trap .illegal 0 0 0) s
  exact ⟨hs.memory_wf, hs.memory_fits, hs.jobs, hs.polys, hiff, hle, hboth⟩

/-- Settles O17: the three events of a step, a move of the host, the captured command, legal or not, and nothing. -/
theorem stepKeepsTheInvariant : Obligations.StepKeepsTheInvariant := by
  intro s t h
  unfold step at h
  split at h
  · exact keeps_takeMove h
  · split at h
    · exact ⟨exec_cfg h, fun hs => exec_inv hs h⟩
    · exact keeps_illegalCommand h
  · cases h
    exact ⟨rfl, id⟩

end Sys2Proof.Proofs
end

section
/-! The vector memory by bytes, limbs and slots (20_memory.md R71 to R73, R75, R76). -/

namespace Sys2Proof.Proofs

open Sys2Proof.Machine Sys2Proof.Laws

/-! Bytes and the number they make (R73) -/

theorem natOfBytes_lt : ∀ bs, natOfBytes bs < 2 ^ (8 * bs.length)
  | [] => by simp [natOfBytes]
  | b :: bs => by
    have hb := b.isLt
    have hbs := natOfBytes_lt bs
    rw [natOfBytes, List.length_cons, show 8 * (bs.length + 1) = 8 + 8 * bs.length by ring, pow_add]
    omega

/-- The bytes of a number made of bytes. -/
theorem byte_natOfBytes : ∀ bs j (hj : j < bs.length), BitVec.ofNat 8 (natOfBytes bs / 2 ^ (8 * j)) = bs[j]
  | b :: bs, 0, _ => by
    apply BitVec.eq_of_toNat_eq
    simp [natOfBytes, Nat.mod_eq_of_lt b.isLt]
  | b :: bs, j + 1, hj => by
    have hdiv : (b.toNat + 256 * natOfBytes bs) / 256 = natOfBytes bs := by
      have hb := b.isLt
      omega
    rw [natOfBytes, show 8 * (j + 1) = 8 + 8 * j by ring, pow_add, ← Nat.div_div_eq_div_mul, show 2 ^ 8 = 256 by rfl, hdiv]
    exact byte_natOfBytes bs j (Nat.lt_of_succ_lt_succ hj)

/-- A slot is its 32 bytes, byte `j` at `32e + j` (R73). -/
theorem vmSlot_eq_iff (s : State) (e : Nat) (v : U256) :
    s.vmSlot e = v ↔ ∀ j, j < 32 → s.vmByte (32 * e + j) = v.extractLsb' (8 * j) 8 := by
  rw [State.vmSlot, vmNat_eq]
  constructor
  · rintro rfl j hj
    have hlt := natOfBytes_lt ((List.range 32).map fun j => s.vmByte (32 * e + j))
    rw [List.length_map, List.length_range] at hlt
    rw [extract_ofNat, BitVec.toNat_ofNat, Nat.mod_eq_of_lt hlt, byte_natOfBytes _ j (by simpa using hj)]
    simp
  · intro h
    have hbytes : (List.range 32).map (fun j => s.vmByte (32 * e + j)) =
        (List.range 32).map fun j => BitVec.ofNat 8 (v.toNat / 2 ^ (8 * j)) :=
      List.map_congr_left fun j hj => (h j (List.mem_range.1 hj)).trans (extract_ofNat v j)
    apply BitVec.eq_of_toNat_eq
    rw [hbytes, natOfBytes_extract, BitVec.toNat_ofNat, Nat.mod_mod]
    exact Nat.mod_eq_of_lt v.isLt

theorem vmByte_eq_slot_byte (s : State) (e : Nat) {j : Nat} (hj : j < 32) :
    s.vmByte (32 * e + j) = (s.vmSlot e).extractLsb' (8 * j) 8 := (vmSlot_eq_iff s e _).1 rfl j hj

/-! Vectors -/

/-- A range just written reads back (R71, R72). -/
theorem memRead_memWrite_same (s : State) (addr : Nat) (vs : List U256) : (s.memWrite addr vs).memRead addr vs.length = vs := by
  apply List.ext_getElem (memRead_length _ _ _)
  intro i _ hi
  simp [State.memRead, memWrite_slot_inside s addr vs i hi]

/-- Settles O11: the bytes of a store are read back in its range and nowhere else. -/
theorem vectorMemoryReadsBack : Obligations.VectorMemoryReadsBack :=
  fun s addr vs => ⟨memRead_memWrite_same s addr vs, memWrite_slot_outside s addr vs, memWrite_wf s addr vs⟩

/-! Limbs (R75, R76) -/

/-- Byte `j` of limb `i` is byte `4i + j` of the value. -/
theorem limb_byte (v : U256) (i : Nat) {j : Nat} (hj : j < 4) :
    (limb v i).extractLsb' (8 * j) 8 = v.extractLsb' (8 * (4 * i + j)) 8 := by
  ext k hk
  simp only [limb, BitVec.getElem_extractLsb', BitVec.getLsbD_extractLsb']
  rw [decide_eq_true (show 8 * j + k < 32 by omega), Bool.true_and]
  congr 1
  ring

/-- A limb the host reads is that limb of the slot. -/
theorem vmLimb_eq_limb (s : State) (e : Nat) {i : Nat} (hi : i < 8) : s.vmLimb e i = limb (s.vmSlot e) i := by
  have hbytes : (List.range 4).map (fun j => s.vmByte (32 * e + 4 * i + j)) =
      (List.range 4).map fun j => BitVec.ofNat 8 ((limb (s.vmSlot e) i).toNat / 2 ^ (8 * j)) := by
    apply List.map_congr_left
    intro j hj
    have hj : j < 4 := List.mem_range.1 hj
    rw [Nat.add_assoc, vmByte_eq_slot_byte s e (by omega), ← limb_byte _ _ hj, extract_ofNat]
  apply BitVec.eq_of_toNat_eq
  rw [State.vmLimb, vmNat_eq, hbytes, natOfBytes_extract, BitVec.toNat_ofNat, Nat.mod_mod]
  exact Nat.mod_eq_of_lt (limb (s.vmSlot e) i).isLt

/-- A limb write puts byte `j` of the limb at byte `4i + j` of the slot. -/
theorem writeLimb_byte_inside (s : State) (e i : Nat) (v : Word) {j : Nat} (hj : j < 4) :
    (s.writeLimb e i v).vmByte (32 * e + 4 * i + j) = v.extractLsb' (8 * j) 8 := by
  simp only [State.vmByte, State.vmByteIn, State.writeLimb, byte_store, limbBytes_length]
  rw [if_pos (by omega), Nat.add_sub_cancel_left]
  simp [limbBytes, hj]

/-- The host writes the listed limbs of `v` to slot `e`, one after the other. -/
def writeLimbsOf (e : Nat) (v : U256) (order : List Nat) (s : State) : State :=
  order.foldl (fun t i => t.writeLimb e i (limb v i)) s

/-- A limb listed anywhere, once or more often, holds the value's bytes; another one what it held. -/
theorem writeLimbsOf_byte (e : Nat) (v : U256) (i : Nat) {j : Nat} (hj : j < 4) : ∀ (order : List Nat) (s : State),
    (writeLimbsOf e v order s).vmByte (32 * e + 4 * i + j) =
      if i ∈ order then v.extractLsb' (8 * (4 * i + j)) 8 else s.vmByte (32 * e + 4 * i + j)
  | [], s => by simp [writeLimbsOf]
  | k :: order, s => by
    have ih := writeLimbsOf_byte e v i hj order (s.writeLimb e k (limb v k))
    have hfirst : (s.writeLimb e k (limb v k)).vmByte (32 * e + 4 * i + j) =
        if i = k then v.extractLsb' (8 * (4 * i + j)) 8 else s.vmByte (32 * e + 4 * i + j) := by
      split_ifs with hik
      · rw [hik, writeLimb_byte_inside _ _ _ _ hj, limb_byte _ _ hj]
      · exact writeLimb_byte_outside _ _ _ _ _ (by omega)
    rw [hfirst] at ih
    refine ih.trans ?_
    by_cases hik : i = k <;> simp [hik]

/-- Writes of limbs of one slot leave every other byte as it was. -/
theorem writeLimbsOf_byte_outside (e : Nat) (v : U256) {x : Nat} (hx : x < 32 * e ∨ 32 * e + 32 ≤ x) :
    ∀ (order : List Nat) (s : State), (∀ i ∈ order, i < 8) → (writeLimbsOf e v order s).vmByte x = s.vmByte x
  | [], _, _ => rfl
  | k :: order, s, h => by
    obtain ⟨hk, horder⟩ := List.forall_mem_cons.1 h
    have hfirst := writeLimb_byte_outside s e k (limb v k) x (by omega)
    exact (writeLimbsOf_byte_outside e v hx order _ horder).trans hfirst

/-- All eight limbs written, in any order, make the slot the value. -/
theorem writeLimbsOf_slot_same (s : State) (e : Nat) (v : U256) {order : List Nat} (hall : ∀ i, i < 8 → i ∈ order) :
    (writeLimbsOf e v order s).vmSlot e = v := by
  refine (vmSlot_eq_iff _ _ _).2 fun j hj => ?_
  have hbyte := writeLimbsOf_byte e v (j / 4) (Nat.mod_lt j (by norm_num : 4 > 0)) order s
  rwa [if_pos (hall _ (by omega)), Nat.add_assoc, Nat.div_add_mod] at hbyte

theorem writeLimbsOf_slot_ne (s : State) {e e' : Nat} (v : U256) {order : List Nat} (hlt : ∀ i ∈ order, i < 8)
    (hne : e' ≠ e) : (writeLimbsOf e v order s).vmSlot e' = s.vmSlot e' := by
  refine (vmSlot_eq_iff _ _ _).2 fun j hj => ?_
  rw [writeLimbsOf_byte_outside e v (by omega) order s hlt, vmByte_eq_slot_byte s e' hj]

/-! The memory port's steps -/

/-- An access of a limb that exists. -/
theorem hostMove_mem_present {s : State} {e i : Nat} (he : e < s.cfg.vmSize) (hi : i < 8) :
    hostMove (.memRead e i) s = .next { s with rdata := limb (s.vmSlot e) i } ∧
      ∀ v, hostMove (.memWrite e i v) s = .next (s.writeLimb e i v) := by
  rw [← vmLimb_eq_limb s e hi]
  exact ⟨if_pos ⟨he, hi⟩, fun _ => if_pos ⟨he, hi⟩⟩

/-- An access of a slot or limb that does not exist. -/
theorem hostMove_mem_absent {s : State} {e i : Nat} (h : s.cfg.vmSize ≤ e ∨ 8 ≤ i) :
    hostMove (.memRead e i) s = .fault (.hostAddressAbsent (32 * e + 4 * i)) ∧
      ∀ v, hostMove (.memWrite e i v) s = .fault (.hostAddressAbsent (32 * e + 4 * i)) := by
  have hno : ¬(e < s.cfg.vmSize ∧ i < 8) := by omega
  exact ⟨if_neg hno, fun _ => if_neg hno⟩

/-- Settles O10: the writes byte by byte, and the memory port's two outcomes. -/
theorem hostLimbsMakeASlot : Obligations.HostLimbsMakeASlot := by
  refine ⟨fun s e v order hperm => ?_, fun s e i hi => vmLimb_eq_limb s e hi, fun s e i rest hb => ⟨fun he hi => ?_, fun h => ?_⟩⟩
  · have hmem : ∀ i, i ∈ order ↔ i < 8 := fun i => hperm.mem_iff.trans List.mem_range
    exact ⟨writeLimbsOf_slot_same s e v fun i => (hmem i).2, fun e' => writeLimbsOf_slot_ne s v fun i => (hmem i).1⟩
  · obtain ⟨hread, hwrite⟩ := hostMove_mem_present (s := { s with host := rest }) he hi
    exact ⟨fun hh => (step_of_host hb hh).trans hread, fun v hh => (step_of_host hb hh).trans (hwrite v)⟩
  · obtain ⟨hread, hwrite⟩ := hostMove_mem_absent (s := { s with host := rest }) h
    exact ⟨fun hh => (step_of_host hb hh).trans hread, fun v hh => (step_of_host hb hh).trans (hwrite v)⟩

end Sys2Proof.Proofs
end

section
/-! The host's bus (20_memory.md R74, R76), and how the host and a running command take turns (R78;
60_exceptions.md R325). -/

namespace Sys2Proof.Proofs

open Sys2Proof.Machine Sys2Proof.Laws

/-! What an address names -/

theorem busTarget_csr (c : Cfg) {n : Nat} (hn : n < csrCount) : busTarget c (c.csrBase + 4 * n) = .csr n := by
  rw [busTarget, if_pos (by omega), Nat.add_sub_cancel_left, Nat.mul_div_cancel_left n (by norm_num)]

/-- The window of `VM` lies outside the register window (00_scope.md R10). -/
theorem busTarget_vm {c : Cfg} (hc : c.WellFormed) {e i : Nat} (he : e < c.vmSize) (hi : i < 8) :
    busTarget c (c.vmBase + 32 * e + 4 * i) = .vm e i := by
  have hdisjoint := hc.disjoint
  have hslot : (c.vmBase + 32 * e + 4 * i - c.vmBase) / 32 = e := by omega
  have hlimb : (c.vmBase + 32 * e + 4 * i - c.vmBase) % 32 / 4 = i := by omega
  rw [busTarget, if_neg (by omega), if_pos (by omega), hslot, hlimb]

theorem busTarget_absent {c : Cfg} {addr : Nat} (hcsr : addr < c.csrBase ∨ c.csrBase + 4 * csrCount ≤ addr)
    (hvm : addr < c.vmBase ∨ c.vmBase + 32 * c.vmSize ≤ addr) : busTarget c addr = .absent := by
  rw [busTarget, if_neg (by omega), if_neg (by omega)]

/-! A bus access is the access of the port it names -/

section
variable {s : State} {addr : Nat}

theorem hostMove_bus_csr {n : Nat} (ha : addr % 4 = 0) (ht : busTarget s.cfg addr = .csr n) :
    hostMove (.busRead addr 32) s = hostMove (.regRead n) s ∧
      ∀ v, hostMove (.busWrite addr 32 v) s = hostMove (.regWrite n v) s := by
  simp [hostMove, ha, ht]

theorem hostMove_bus_vm {e i : Nat} (ha : addr % 4 = 0) (ht : busTarget s.cfg addr = .vm e i) :
    hostMove (.busRead addr 32) s = hostMove (.memRead e i) s ∧
      ∀ v, hostMove (.busWrite addr 32 v) s = hostMove (.memWrite e i v) s := by
  simp [hostMove, ha, ht]

theorem hostMove_bus_absent (ha : addr % 4 = 0) (ht : busTarget s.cfg addr = .absent) :
    hostMove (.busRead addr 32) s = .fault (.hostAddressAbsent addr) ∧
      ∀ v, hostMove (.busWrite addr 32 v) s = .fault (.hostAddressAbsent addr) := by
  simp [hostMove, ha, ht]

theorem hostMove_bus_not_a_word {width : Nat} (h : width ≠ 32 ∨ addr % 4 ≠ 0) :
    hostMove (.busRead addr width) s = .refused (.hostAccessNotAWord addr width) ∧
      ∀ v, hostMove (.busWrite addr width v) s = .refused (.hostAccessNotAWord addr width) :=
  ⟨if_pos h, fun _ => if_pos h⟩

/-- Moves that do the same make the same step. -/
theorem step_eq_of_hostMove_eq {m m' : HostMove} {rest : List HostMove} (hb : s.busy = false) (hh : s.host = m :: rest)
    (h : hostMove m { s with host := rest } = hostMove m' { s with host := rest }) :
    step s = step { s with host := m' :: rest } := by
  have hstep' : step { s with host := m' :: rest } = hostMove m' { s with host := rest } := step_of_host hb rfl
  rw [step_of_host hb hh, h, hstep']

end

/-- Settles O9: the address picks the access, and equal accesses make equal steps. -/
theorem busAddresses : Obligations.BusAddresses := by
  intro c hc
  have hcsr := hc.csrBase
  have hvm := hc.vmBase
  refine ⟨fun n hn => busTarget_csr c hn, fun e i he hi => busTarget_vm hc he hi, ?_⟩
  rintro s rest rfl hb
  refine ⟨fun n hn => ?_, fun e i he hi => ?_, fun addr width h => ?_, fun addr ha hnocsr hnovm => ?_⟩
  · obtain ⟨hread, hwrite⟩ := hostMove_bus_csr (s := { s with host := rest }) (by omega) (busTarget_csr s.cfg hn)
    exact ⟨fun hh => step_eq_of_hostMove_eq hb hh hread, fun v hh => step_eq_of_hostMove_eq hb hh (hwrite v)⟩
  · obtain ⟨hread, hwrite⟩ := hostMove_bus_vm (s := { s with host := rest }) (by omega) (busTarget_vm hc he hi)
    exact ⟨fun hh => step_eq_of_hostMove_eq hb hh hread, fun v hh => step_eq_of_hostMove_eq hb hh (hwrite v)⟩
  · obtain ⟨hread, hwrite⟩ := hostMove_bus_not_a_word (s := { s with host := rest }) h
    exact ⟨fun hh => (step_of_host hb hh).trans hread, fun v hh => (step_of_host hb hh).trans (hwrite v)⟩
  · obtain ⟨hread, hwrite⟩ := hostMove_bus_absent (s := { s with host := rest }) ha (busTarget_absent hnocsr hnovm)
    exact ⟨fun hh => (step_of_host hb hh).trans hread, fun v hh => (step_of_host hb hh).trans (hwrite v)⟩

/-! Turns (R78) -/

/-- A read of `STATUS`, through either port, delivers it and nothing else. -/
theorem hostMove_statusRead {m : HostMove} {s : State} (h : isStatusRead s.cfg m = true) :
    hostMove m s = .next { s with rdata := statusWord s } := by
  cases m with
  | regRead n =>
    obtain rfl : n = 0 := by simpa [isStatusRead] using h
    rfl
  | busRead addr width =>
    obtain ⟨⟨rfl, rfl⟩, haligned⟩ : (addr = s.cfg.csrBase ∧ width = 32) ∧ addr % 4 = 0 := by
      simpa [isStatusRead] using h
    exact (hostMove_bus_csr haligned (busTarget_csr s.cfg (n := 0) (by decide))).1
  | reset | regWrite | memRead | memWrite | busWrite => cases h

/-- While a command runs, the next event is the command or a read of `STATUS` (log entry 8), unless it is a reset. -/
theorem nextEvent_of_busy {s : State} (hb : s.busy = true) (hr : ∀ rest, s.host ≠ .reset :: rest) :
    nextEvent s = .command ∨
      ∃ m rest, s.host = m :: rest ∧ isStatusRead s.cfg m = true ∧ nextEvent s = .host m rest := by
  cases hh : s.host with
  | nil => exact .inl (by simp [nextEvent, hh, hb])
  | cons m rest =>
    have hm : m ≠ .reset := fun e => hr rest (e ▸ hh)
    by_cases hread : (isStatusRead s.cfg m && Config.statusReadFirst s.draws) = true
    · exact .inr ⟨m, rest, rfl, (Bool.and_eq_true_iff.1 hread).1, by simp only [nextEvent, hh, hm, hb, hread, if_true, if_false]⟩
    · exact .inl (by simp only [nextEvent, hh, hm, hb, hread, if_true, if_false, Bool.false_eq_true])

/-- The captured command's step: its meaning, or the `ILLEGAL` fault. -/
theorem step_of_command {s : State} (h : nextEvent s = .command) :
    (∃ i, decode s.current = .ok i ∧ step s = exec i s) ∨
      ∃ e, decode s.current = .error e ∧ step s = illegalCommand s := by
  unfold step
  rw [h]
  cases hd : decode s.current with
  | ok i => exact .inl ⟨i, rfl, rfl⟩
  | error e => exact .inr ⟨e, rfl, rfl⟩

/-- The step of a read of `STATUS` during a command. -/
theorem step_of_statusRead {s : State} {m : HostMove} {rest : List HostMove} (hb : s.busy = true)
    (hm : isStatusRead s.cfg m = true) (h : nextEvent s = .host m rest) :
    step s = .next { s with host := rest, rdata := statusWord s, draws := s.draws + 1 } := by
  have hstep : step s = hostMove m { s with host := rest, draws := s.draws + 1 } := by
    unfold step
    rw [h]
    simp only [takeMove, hb, if_true]
  exact hstep.trans (hostMove_statusRead hm)

/-- Settles O14: the next event of a busy state, and the quiet one. -/
theorem hostAndCoreTakeTurns : Obligations.HostAndCoreTakeTurns := by
  refine ⟨fun s hb hr => ?_, fun s hb hh => ?_⟩
  · rcases nextEvent_of_busy hb hr with hcommand | ⟨m, rest, hh, hm, hread⟩
    · exact .inl (step_of_command hcommand)
    · exact .inr ⟨m, rest, hh, hm, step_of_statusRead hb hm hread⟩
  · have hquiet : nextEvent s = .quiet := by simp [nextEvent, hh, hb]
    rw [step, hquiet]

end Sys2Proof.Proofs
end

section
/-! The encoder and the decoder invert each other (30_encoding.md R100 to R107, R109). -/

namespace Sys2Proof.Proofs

open Sys2Proof.Laws

/-! The opcode map (R109) -/

open FieldsRoundTrip in
theorem opcodeMap_fields (i : Instr) : opcodeMap i.fields = some (i.format, i) := by
  cases i
  exacts [nop, lde .., ste .., ldi .., rdw .., uclr .., umov .., uadd .., usub .., uneg .., umul256 .., umul512 .., ueq ..,
    monpro .., monadd .., monsub .., tomont .., frommont .., fzero .., fone .., fsqr .., fneg .., finv .., frand ..,
    frands .., froot .., ffromcan .., ftocan .., feq .., fisz .., fftrec .., fftr2 .., fft4 .., ifft .., jnew .., jfork ..,
    jfft .., jmerge .., jfind .., jrun .., jst .., jfree .., jqry .., pnew .., pnewp .., pext .., padd .., pmul ..,
    peval .., pcoef .., ppoint .., pstc .., pstp .., pfree .., pqry ..]

/-- The opcode and the fields a format uses, every other field zero (R102, R106). -/
def usedFields (m : Format) (f : Fields) : Fields where
  op := f.op
  d := if m.d = .unused then 0 else f.d
  a := if m.a = .unused then 0 else f.a
  b := if m.b = .unused then 0 else f.b
  x := if m.x then f.x else 0
  y := if m.y then f.y else 0
  z := if m.z then f.z else 0

/-- The command an opcode names takes the fields its format uses, and no other. -/
theorem opcodeMap_eq_some {f : Fields} {m : Format} {i : Instr} (h : opcodeMap f = some (m, i)) :
    m = i.format ∧ i.fields.op = f.op ∧ i.fields = { usedFields m f with op := i.fields.op } := by
  unfold opcodeMap at h
  split at h <;> cases h <;> exact ⟨rfl, BitVec.eq_of_toNat_eq ‹f.op.toNat = _›.symm, rfl⟩

/-- R106: where the unused fields are zero, the used ones are all there is. -/
theorem usedFields_eq_self {m : Format} {f : Fields} (h : m.unusedZero f = true) : usedFields m f = f := by
  have hindex : ∀ (r : Role) (v : Byte), (r != .unused || v == 0) = true → (if r = .unused then 0 else v) = v := by
    intro r v hv
    split_ifs with hr
    · subst hr
      exact (eq_of_beq hv).symm
    · rfl
  have hword : ∀ (used : Bool) (v : Word), (used || v == 0) = true → (if used then v else 0) = v := by
    intro used v hv
    cases used with
    | true => rfl
    | false => exact (eq_of_beq hv).symm
  simp only [Format.unusedZero, Bool.and_eq_true] at h
  obtain ⟨⟨⟨⟨⟨hd, ha⟩, hb⟩, hx⟩, hy⟩, hz⟩ := h
  simp only [usedFields, hindex _ _ hd, hindex _ _ ha, hindex _ _ hb, hword _ _ hx, hword _ _ hy, hword _ _ hz]

theorem unusedZero_fields (i : Instr) : i.format.unusedZero i.fields = true := by
  cases i <;> rfl

/-- The ranges a format sets for the index fields are the ranges of the command's operands (R103 to R105). -/
theorem indexInRange_fields (i : Instr) : i.format.indexInRange i.fields = i.wf := by
  cases i <;> simp [Instr.format, Instr.fields, Instr.wf, Format.indexInRange, Role.inRange, fmtN, fmtR3, fmtR2, fmtR1, fmtC2,
    fmtC1, fmtRH, fmtI, fmtI64, fmtML, fmtMS, fmtV, fmtVW, fmtV4, fmtJN, fmtJF, fmtJ1, fmtJ2, fmtJI, fmtJS, fmtJQ, fmtPN,
    fmtPX, fmtP3, fmtPE, fmtP1, fmtPS, fmtPQ]

/-! The decoder (R107) -/

theorem accept_eq_ok {m : Format} {f : Fields} {i j : Instr} :
    m.accept f i = .ok j ↔ (m.unusedZero f = true ∧ m.indexInRange f = true) ∧ i = j := by
  unfold Format.accept
  split_ifs <;> simp [*]

/-- A word decodes exactly when its opcode is assigned and its fields are legal for the opcode's format. -/
theorem decode_eq_ok {cmd : Command} {i : Instr} :
    decode cmd = .ok i ↔ ∃ m, opcodeMap (Fields.ofCommand cmd) = some (m, i) ∧
      m.unusedZero (Fields.ofCommand cmd) = true ∧ m.indexInRange (Fields.ofCommand cmd) = true := by
  unfold decode
  cases opcodeMap (Fields.ofCommand cmd) with
  | none => simp
  | some p =>
    obtain ⟨m, j⟩ := p
    refine accept_eq_ok.trans ⟨?_, ?_⟩
    · rintro ⟨hlegal, rfl⟩
      exact ⟨m, rfl, hlegal⟩
    · rintro ⟨_, ⟨rfl⟩, hlegal⟩
      exact ⟨hlegal, rfl⟩

theorem fields_of_decode {cmd : Command} {i : Instr} (h : decode cmd = .ok i) : i.fields = Fields.ofCommand cmd := by
  obtain ⟨m, hmap, hzero, -⟩ := decode_eq_ok.1 h
  obtain ⟨-, hop, hfields⟩ := opcodeMap_eq_some hmap
  rw [hfields, usedFields_eq_self hzero, hop]

/-- Settles O1: the fields of a command are legal for its format exactly when it is well formed. -/
theorem decodeInvertsEncode : Obligations.DecodeInvertsEncode := by
  intro i hi
  refine decode_eq_ok.2 ⟨i.format, ?_⟩
  rw [encode, ofCommand_toCommand, indexInRange_fields]
  exact ⟨opcodeMap_fields i, unusedZero_fields i, hi⟩

/-- Settles O2: a word that decodes has the fields of the command it decodes to. -/
theorem encodeInvertsDecode : Obligations.EncodeInvertsDecode := by
  intro cmd i h
  have hfields := fields_of_decode h
  obtain ⟨m, hmap, -, hrange⟩ := decode_eq_ok.1 h
  obtain ⟨rfl, -, -⟩ := opcodeMap_eq_some hmap
  refine ⟨?_, ?_⟩
  · rw [← indexInRange_fields, hfields, hrange]
  · rw [encode, hfields, toCommand_ofCommand]

end Sys2Proof.Proofs
end

section
/-! What a step whose event is the captured command runs (30_encoding.md R107, R110; 20_memory.md R78, R82). -/

namespace Sys2Proof.Proofs

open Sys2Proof.Machine

/-- Settles O6: by O2 such a word does not decode. -/
theorem illegalWordsFault : Obligations.IllegalWordsFault := by
  intro s hevent hnone
  obtain ⟨i, hdecode, -⟩ | ⟨e, -, hstep⟩ := step_of_command hevent
  · obtain ⟨hwf, hencode⟩ := encodeInvertsDecode _ _ hdecode
    exact absurd hencode (hnone i hwf)
  · exact hstep.trans rfl

theorem step_of_decode {s : State} {i : Instr} (hevent : nextEvent s = .command) (h : decode s.current = .ok i) :
    step s = exec i s := by
  simp only [step, hevent, h]

/-- A busy state runs its command unless the host resets or reads `STATUS` (log entry 8). -/
theorem nextEvent_eq_command {s : State} (hb : s.busy = true)
    (h : ∀ m rest, s.host = m :: rest → m ≠ .reset ∧ isStatusRead s.cfg m = false) : nextEvent s = .command := by
  have hreset : ∀ rest, s.host ≠ .reset :: rest := fun rest hh => (h _ rest hh).1 rfl
  obtain hcommand | ⟨m, rest, hh, hread, -⟩ := nextEvent_of_busy hb hreset
  · exact hcommand
  · exact absurd hread (Bool.eq_false_iff.1 (h m rest hh).2)

/-- Settles O5: the event of a busy state, and by O1 an encoded command decodes to itself. -/
theorem stepRunsTheDecodedCommand : Obligations.StepRunsTheDecodedCommand := by
  have hquiet : ∀ s : State, s.busy = true → s.host = [] → nextEvent s = .command :=
    fun s hb hh => nextEvent_eq_command hb (by simp [hh])
  refine ⟨fun s i => step_of_decode, hquiet, fun s m rest hb hh hreset hread => ?_, fun s i hb hh hcur hi => ?_⟩
  · refine nextEvent_eq_command hb fun m' rest' hh' => ?_
    obtain ⟨rfl, -⟩ : m = m' ∧ rest = rest' := List.cons_eq_cons.1 (hh.symm.trans hh')
    exact ⟨hreset, hread⟩
  · exact step_of_decode (hquiet s hb hh) (hcur ▸ decodeInvertsEncode i hi)

end Sys2Proof.Proofs
end

section
/-! The decoder and the opcode table's masks (30_encoding.md, opening text; R102 to R107). -/

namespace Sys2Proof.Proofs

open Sys2Proof.Laws

/-! Masks field by field -/

/-- Two commands' bitwise conjunction, field by field. -/
def andFields (f g : Fields) : Fields :=
  ⟨f.op &&& g.op, f.d &&& g.d, f.a &&& g.a, f.b &&& g.b, f.x &&& g.x, f.y &&& g.y, f.z &&& g.z⟩

theorem toCommand_andFields (f g : Fields) : (andFields f g).toCommand = f.toCommand &&& g.toCommand := by
  apply BitVec.eq_of_getLsbD_eq
  intro k _
  rw [BitVec.getLsbD_and, toCommand_bit, toCommand_bit, toCommand_bit]
  split_ifs <;> exact BitVec.getLsbD_and

/-- A command word determines its fields (R101). -/
theorem toCommand_inj {f g : Fields} : f.toCommand = g.toCommand ↔ f = g :=
  ⟨fun h => by rw [← ofCommand_toCommand f, h, ofCommand_toCommand], congrArg _⟩

/-- A mask that leaves out the `k` low bits keeps nothing of the numbers below `2 ^ k`. -/
theorem and_highBits_eq_zero {w : Nat} (v : BitVec w) (k : Nat) : v &&& BitVec.allOnes w <<< k = 0 ↔ v.toNat < 2 ^ k := by
  have hshift : v &&& BitVec.allOnes w <<< k = v >>> k <<< k := BitVec.shiftLeft_ushiftRight.symm
  have hle : v.toNat / 2 ^ k * 2 ^ k < 2 ^ w := (Nat.div_mul_le_self _ _).trans_lt v.isLt
  rw [hshift, BitVec.toNat_eq, BitVec.toNat_shiftLeft, BitVec.toNat_ushiftRight, Nat.shiftRight_eq_div_pow, Nat.shiftLeft_eq,
    Nat.mod_eq_of_lt hle, ← Nat.div_eq_zero_iff_lt (Nat.two_pow_pos k)]
  simp

/-- How many low bits of an index field a role leaves free (R103 to R105). -/
def roleBits : Role → Nat
  | .unused => 0
  | .reg => 4
  | .job => 6
  | .poly => 3
  | .log => 5
  | .half => 1

/-- The two checks of an index field are one bound. -/
theorem roleBits_bound (r : Role) (v : Byte) :
    ((r != .unused || v == 0) = true ∧ r.inRange v = true) ↔ v.toNat < 2 ^ roleBits r := by
  cases r with
  | unused => simp [roleBits, Role.inRange, BitVec.toNat_eq]
  | reg | job | poly | log | half => simp [roleBits, Role.inRange, isReg, isJob, isPoly, isLog, isHalf]

/-- The mask of a row with this format: the opcode and the bits the format does not leave free. -/
def maskFields (m : Format) : Fields where
  op := BitVec.allOnes 8
  d := BitVec.allOnes 8 <<< roleBits m.d
  a := BitVec.allOnes 8 <<< roleBits m.a
  b := BitVec.allOnes 8 <<< roleBits m.b
  x := if m.x then 0 else BitVec.allOnes 32
  y := if m.y then 0 else BitVec.allOnes 32
  z := if m.z then 0 else BitVec.allOnes 32

/-- An opcode with every other field zero: the pattern of its row. -/
def opFields (op : Byte) : Fields := ⟨op, 0, 0, 0, 0, 0, 0⟩

theorem word_mask_eq_zero (used : Bool) (v : Word) :
    v &&& (if used then 0 else BitVec.allOnes 32) = 0 ↔ (used || v == 0) = true := by
  cases used with
  | true => simp
  | false => rw [if_neg Bool.false_ne_true, BitVec.and_allOnes, Bool.false_or, beq_iff_eq]

/-- The checks of R107 steps 2 and 3 are one comparison under the mask. -/
theorem andFields_mask_eq (m : Format) (f : Fields) (op : Byte) :
    andFields f (maskFields m) = opFields op ↔ f.op = op ∧ m.unusedZero f = true ∧ m.indexInRange f = true := by
  have hd := (and_highBits_eq_zero f.d _).trans (roleBits_bound m.d f.d).symm
  have ha := (and_highBits_eq_zero f.a _).trans (roleBits_bound m.a f.a).symm
  have hb := (and_highBits_eq_zero f.b _).trans (roleBits_bound m.b f.b).symm
  simp only [andFields, maskFields, opFields, Fields.mk.injEq, BitVec.and_allOnes, hd, ha, hb, word_mask_eq_zero]
  simp only [Format.unusedZero, Format.indexInRange, Bool.and_eq_true]
  constructor
  · rintro ⟨hop, ⟨hd0, hdr⟩, ⟨ha0, har⟩, ⟨hb0, hbr⟩, hx, hy, hz⟩
    exact ⟨hop, ⟨⟨⟨⟨⟨hd0, ha0⟩, hb0⟩, hx⟩, hy⟩, hz⟩, ⟨hdr, har⟩, hbr⟩
  · rintro ⟨hop, ⟨⟨⟨⟨⟨hd0, ha0⟩, hb0⟩, hx⟩, hy⟩, hz⟩, ⟨hdr, har⟩, hbr⟩
    exact ⟨hop, ⟨hd0, hdr⟩, ⟨ha0, har⟩, ⟨hb0, hbr⟩, hx, hy, hz⟩

/-! The rows -/

/-- The row of an opcode and its format. -/
def rowOf (op : Byte) (m : Format) : TableRow := ⟨(opFields op).toCommand, (maskFields m).toCommand⟩

theorem matches_rowOf (cmd : Command) (op : Byte) (m : Format) :
    cmd &&& (rowOf op m).mask = (rowOf op m).pattern ↔
      (Fields.ofCommand cmd).op = op ∧ m.unusedZero (Fields.ofCommand cmd) = true ∧
        m.indexInRange (Fields.ofCommand cmd) = true := by
  rw [← andFields_mask_eq, ← toCommand_inj, toCommand_andFields, toCommand_ofCommand]
  rfl

/-- The low byte of a row's pattern is its opcode. -/
theorem rowOf_opcode (op : Byte) (m : Format) : (rowOf op m).pattern.extractLsb' 0 8 = op :=
  congrArg Fields.op (ofCommand_toCommand (opFields op))

/-- The format the opcode map gives an opcode. -/
def opcodeFormat (op : Byte) : Option Format := (opcodeMap (opFields op)).map Prod.fst

/-- The format depends on the opcode alone. -/
theorem opcodeMap_map_fst (f : Fields) : (opcodeMap f).map Prod.fst = opcodeFormat f.op := by
  obtain ⟨op, d, a, b, x, y, z⟩ := f
  unfold opcodeFormat opFields opcodeMap
  dsimp only
  split <;> rfl

/-- The table's rows are those of the assigned opcodes, in order. -/
theorem tableRows_eq : tableRows =
    (List.range 256).filterMap fun n => (opcodeFormat (BitVec.ofNat 8 n)).map (rowOf (BitVec.ofNat 8 n)) := by
  decide +kernel

theorem mem_tableRows {r : TableRow} : r ∈ tableRows ↔ ∃ op m, opcodeFormat op = some m ∧ r = rowOf op m := by
  simp only [tableRows_eq, List.mem_filterMap, List.mem_range, Option.map_eq_some_iff]
  constructor
  · rintro ⟨n, -, m, hm, rfl⟩
    exact ⟨_, m, hm, rfl⟩
  · rintro ⟨op, m, hm, rfl⟩
    refine ⟨op.toNat, op.isLt, m, ?_⟩
    simpa using hm

theorem tableRows_distinct_opcodes :
    tableRows.Pairwise fun r q => r.pattern.extractLsb' 0 8 ≠ q.pattern.extractLsb' 0 8 := by
  decide +kernel

theorem op_of_matches {cmd : Command} {r : TableRow} (hr : r ∈ tableRows) (h : cmd &&& r.mask = r.pattern) :
    (Fields.ofCommand cmd).op = r.pattern.extractLsb' 0 8 := by
  obtain ⟨op, m, -, rfl⟩ := mem_tableRows.1 hr
  rw [rowOf_opcode]
  exact ((matches_rowOf cmd op m).1 h).1

theorem row_of_decode {cmd : Command} {i : Instr} (h : decode cmd = .ok i) :
    ∃ r ∈ tableRows, cmd &&& r.mask = r.pattern := by
  obtain ⟨m, hmap, hlegal⟩ := decode_eq_ok.1 h
  have hformat : opcodeFormat (Fields.ofCommand cmd).op = some m := by rw [← opcodeMap_map_fst, hmap]; rfl
  exact ⟨_, mem_tableRows.2 ⟨_, m, hformat, rfl⟩, (matches_rowOf cmd _ m).2 ⟨rfl, hlegal⟩⟩

theorem fields_op (i : Instr) : i.fields.op = i.opcode := by
  cases i <;> rfl

theorem decode_of_row {cmd : Command} {r : TableRow} (hr : r ∈ tableRows) (h : cmd &&& r.mask = r.pattern) :
    ∃ i, decode cmd = .ok i ∧ i.opcode = r.pattern.extractLsb' 0 8 := by
  obtain ⟨op, m, hformat, rfl⟩ := mem_tableRows.1 hr
  obtain ⟨rfl, hlegal⟩ := (matches_rowOf cmd op m).1 h
  rw [← opcodeMap_map_fst, Option.map_eq_some_iff] at hformat
  obtain ⟨⟨_, i⟩, hmap, rfl⟩ := hformat
  have hdecode : decode cmd = .ok i := decode_eq_ok.2 ⟨_, hmap, hlegal⟩
  refine ⟨i, hdecode, ?_⟩
  rw [rowOf_opcode, ← fields_op, fields_of_decode hdecode]

/-- Settles O3: a row's mask and pattern say what the decoder checks, and rows have different opcodes. -/
theorem decodeAgreesWithTheTable : Obligations.DecodeAgreesWithTheTable := by
  refine ⟨fun cmd i => row_of_decode, fun cmd r hr => decode_of_row hr, ?_, fun i => ?_, fun i => ?_⟩
  · refine tableRows_distinct_opcodes.imp_of_mem fun hr hq hne cmd hmatch hmatch' => hne ?_
    rw [← op_of_matches hr hmatch, op_of_matches hq hmatch']
  · rw [encode, ofCommand_toCommand, fields_op]
  · rw [encode, ofCommand_toCommand]
    cases i <;> rfl

end Sys2Proof.Proofs
end

section
/-! The schoolbook limb loop gives the 512-bit product (40_fixed_width_uint.md R136). -/

namespace Sys2Proof.Proofs

open Sys2Proof.Machine

/-- Limbs and a carry leave a limb to carry: `(2^32 - 1) + (2^32 - 1)^2 + (2^32 - 1) < 2^64`. -/
theorem mac_carry_lt {t x b c : Nat} (ht : t < 2 ^ 32) (hx : x < 2 ^ 32) (hb : b < 2 ^ 32) (hc : c < 2 ^ 32) :
    (t + x * b + c) / 2 ^ 32 < 2 ^ 32 := by
  have hxb : x * b ≤ (2 ^ 32 - 1) * (2 ^ 32 - 1) := Nat.mul_le_mul (Nat.le_sub_one_of_lt hx) (Nat.le_sub_one_of_lt hb)
  omega

/-- The carry out of a pass over limbs is a limb. -/
theorem macPass_carry_lt : ∀ ts xs b c, (∀ t ∈ ts, t < 2 ^ 32) → (∀ x ∈ xs, x < 2 ^ 32) → b < 2 ^ 32 → c < 2 ^ 32 →
    (macPass ts xs b c).2 < 2 ^ 32
  | [], _, _, _, _, _, _, hc => hc
  | _ :: _, [], _, _, _, _, _, hc => hc
  | _ :: ts, _ :: xs, b, _, ht, hx, hb, hc => by
    obtain ⟨ht0, ht⟩ := List.forall_mem_cons.1 ht
    obtain ⟨hx0, hx⟩ := List.forall_mem_cons.1 hx
    exact macPass_carry_lt ts xs b _ ht hx hb (mac_carry_lt ht0 hx0 hb hc)

/-- The window `pl[i+1..i+8]` a row of the loop leaves to the next one: its limbs above the final one, and its carry. -/
def nextWindow (acc xl : List Nat) (y : Nat) : List Nat := (macPass acc xl y 0).1.tail ++ [(macPass acc xl y 0).2]

theorem schoolbookRows_cons (xl : List Nat) (y : Nat) (ys acc : List Nat) :
    schoolbookRows xl (y :: ys) acc = (macPass acc xl y 0).1.headD 0 :: schoolbookRows xl ys (nextWindow acc xl y) := rfl

/-- The window keeps its size. -/
theorem nextWindow_length {acc xl : List Nat} (y : Nat) (h : acc.length = xl.length) (hpos : 0 < acc.length) :
    (nextWindow acc xl y).length = xl.length := by
  rw [nextWindow, List.length_append, List.length_tail, macPass_length _ _ _ _ h, List.length_singleton, ← h]
  exact Nat.sub_add_cancel hpos

theorem nextWindow_limb_lt {acc xl : List Nat} {y : Nat} (hacc : ∀ l ∈ acc, l < 2 ^ 32) (hxl : ∀ l ∈ xl, l < 2 ^ 32)
    (hy : y < 2 ^ 32) : ∀ l ∈ nextWindow acc xl y, l < 2 ^ 32 := by
  intro l hl
  rcases List.mem_append.1 hl with hl | hl
  · exact macPass_limb_lt _ _ _ _ l (List.mem_of_mem_tail hl)
  · rw [List.mem_singleton.1 hl]
    exact macPass_carry_lt _ _ _ _ hacc hxl hy (by norm_num)

/-- A row adds `x · y[i]`: its final limb and, one limb higher, the next window. -/
theorem nextWindow_value {acc xl : List Nat} (y : Nat) (h : acc.length = xl.length) (hpos : 0 < acc.length) :
    (macPass acc xl y 0).1.headD 0 + 2 ^ 32 * natOfLimbs (nextWindow acc xl y) = natOfLimbs acc + natOfLimbs xl * y := by
  have hval := macPass_value acc xl y 0 h
  have hsplit := natOfLimbs_headD_tail (macPass acc xl y 0).1
  have hpow : 2 ^ (32 * acc.length) = 2 ^ 32 * 2 ^ (32 * (acc.length - 1)) := by
    rw [← pow_add]
    congr 1
    omega
  rw [hpow] at hval
  rw [nextWindow, natOfLimbs_append, List.length_tail, macPass_length _ _ _ _ h]
  linear_combination hval - hsplit

/-- The rows on a window of `xl`'s size: the number they give, how many limbs it has, and that these are limbs. -/
theorem schoolbookRows_spec {xl : List Nat} (hpos : 0 < xl.length) (hxl : ∀ l ∈ xl, l < 2 ^ 32) :
    ∀ ys acc, acc.length = xl.length → (∀ l ∈ acc, l < 2 ^ 32) → (∀ y ∈ ys, y < 2 ^ 32) →
      natOfLimbs (schoolbookRows xl ys acc) = natOfLimbs acc + natOfLimbs xl * natOfLimbs ys ∧
      (schoolbookRows xl ys acc).length = ys.length + xl.length ∧
      ∀ l ∈ schoolbookRows xl ys acc, l < 2 ^ 32
  | [], acc, hlen, hacc, _ => ⟨by simp [schoolbookRows, natOfLimbs], by simp [schoolbookRows, hlen], hacc⟩
  | y :: ys, acc, hlen, hacc, hys => by
    obtain ⟨hy, hys⟩ := List.forall_mem_cons.1 hys
    have hrow := nextWindow_value y hlen (hlen ▸ hpos)
    obtain ⟨hval, hlength, hlimb⟩ := schoolbookRows_spec hpos hxl ys (nextWindow acc xl y)
      (nextWindow_length y hlen (hlen ▸ hpos)) (nextWindow_limb_lt hacc hxl hy) hys
    rw [schoolbookRows_cons]
    refine ⟨?_, ?_, List.forall_mem_cons.2 ⟨?_, hlimb⟩⟩
    · rw [natOfLimbs, hval, natOfLimbs]
      linear_combination hrow
    · rw [List.length_cons, hlength, List.length_cons]
      ring
    · rw [macPass_headD _ _ _ hlen]
      exact Nat.mod_lt _ (by norm_num)

/-- Settles O24: eight rows over a window of eight zero limbs. -/
theorem schoolbookLoopGivesTheProduct : Obligations.SchoolbookLoopGivesTheProduct := by
  intro x y
  have hzero : ∀ l ∈ List.replicate 8 0, l < 2 ^ 32 := by simp
  obtain ⟨hval, hlength, hlimb⟩ :=
    schoolbookRows_spec (by simp) (limbsOf_lt x) (limbsOf y) (List.replicate 8 0) (by simp) hzero (limbsOf_lt y)
  refine ⟨?_, ?_, hlimb⟩
  · simpa [schoolbook, natOfLimbs] using hval
  · simpa [schoolbook] using hlength

end Sys2Proof.Proofs
end

section
/-! The commands of FixedWidthUint, the constants and the comparisons: what they write, as numbers
(40_fixed_width_uint.md R131 to R139; 42_field_element.md R171, R172, R182, R185; 46_data_movement_system.md R290, R293,
R294). -/

namespace Sys2Proof.Proofs

open Sys2Proof.Machine Sys2Proof.Laws

/-! The operations on 256-bit values as operations on numbers -/

theorem zext256_eq_ofNat (imm : Word) : zext256 imm = BitVec.ofNat 256 imm.toNat := (BitVec.ofNat_toNat 256 imm).symm

theorem add_eq_ofNat (a b : U256) : a + b = BitVec.ofNat 256 ((a.toNat + b.toNat) % 2 ^ 256) := by
  apply BitVec.eq_of_toNat_eq
  rw [BitVec.toNat_add, BitVec.toNat_ofNat, Nat.mod_mod]

theorem sub_eq_ofNat (a b : U256) : a - b = BitVec.ofNat 256 ((2 ^ 256 + a.toNat - b.toNat) % 2 ^ 256) := by
  apply BitVec.eq_of_toNat_eq
  rw [BitVec.toNat_sub, BitVec.toNat_ofNat, Nat.mod_mod, Nat.sub_add_comm b.isLt.le]

/-- Flipping the bits and adding 1 negates (R135). -/
theorem flip_add_one_eq_ofNat (a : U256) : ~~~a + 1 = BitVec.ofNat 256 ((2 ^ 256 - a.toNat) % 2 ^ 256) := by
  have hneg : ~~~a + 1 = -a := (BitVec.neg_eq_not_add a).symm
  apply BitVec.eq_of_toNat_eq
  rw [hneg, BitVec.toNat_neg, BitVec.toNat_ofNat, Nat.mod_mod]

/-- The sign of a value is bit 255 of its number. -/
theorem signBit_ofNat_mod (n : Nat) : signBit (BitVec.ofNat 256 (n % 2 ^ 256)) = (n % 2 ^ 256).testBit 255 := by
  rw [signBit, BitVec.getLsbD, BitVec.toNat_ofNat, Nat.mod_mod]

theorem ofNat_eq_ofNat_mod (n : Nat) : BitVec.ofNat 256 n = BitVec.ofNat 256 (n % 2 ^ 256) :=
  BitVec.eq_of_toNat_eq (by rw [BitVec.toNat_ofNat, BitVec.toNat_ofNat, Nat.mod_mod])

/-- Twice the width holds every product: `W` holds that of two element registers (R138). -/
theorem toNat_ofNat_product {n : Nat} (a b : BitVec n) :
    (BitVec.ofNat (n + n) (a.toNat * b.toNat)).toNat = a.toNat * b.toNat := by
  have hlt : a.toNat * b.toNat < 2 ^ (n + n) := by
    rw [pow_add]
    exact Nat.mul_lt_mul'' a.isLt b.isLt
  rw [BitVec.toNat_ofNat, Nat.mod_eq_of_lt hlt]

theorem halfOf_zero (w : BitVec 512) : halfOf w 0 = BitVec.ofNat 256 (w.toNat % 2 ^ 256) := by
  apply BitVec.eq_of_toNat_eq
  rw [halfOf, if_pos rfl, BitVec.extractLsb'_toNat, BitVec.toNat_ofNat, Nat.mod_mod, Nat.shiftRight_zero]

theorem halfOf_one (w : BitVec 512) : halfOf w 1 = BitVec.ofNat 256 (w.toNat / 2 ^ 256) := by
  apply BitVec.eq_of_toNat_eq
  rw [halfOf, if_neg (by decide), BitVec.extractLsb'_toNat, BitVec.toNat_ofNat, Nat.shiftRight_eq_div_pow]

theorem equalLimbs_eq (a b : U256) : equalLimbs a b = decide (a.toNat = b.toNat) := by
  rw [equalLimbs, decide_eq_decide]
  exact BitVec.toNat_eq

theorem isZeroElem_eq (a : U256) : isZeroElem a = decide (a.toNat = 0) := by
  rw [isZeroElem, decide_eq_decide]
  exact BitVec.toNat_eq

/-- Bit 255 of a number of 256 bits says that it reaches `2^255`. -/
theorem testBit_255_eq {n : Nat} (h : n < 2 ^ 256) : n.testBit 255 = decide (2 ^ 255 ≤ n) := by
  have htop := topBit_eq (BitVec.ofNat 256 n)
  rwa [BitVec.getLsbD, BitVec.toNat_ofNat, Nat.mod_eq_of_lt h] at htop

/-- Of two values below `2^255`, bit 255 of the difference is the borrow (R134): without a borrow the difference is below
`2^255`, with one it is above. -/
theorem sub_testBit_eq_borrow {a b : Nat} (ha : a < 2 ^ 255) (hb : b < 2 ^ 255) :
    ((2 ^ 256 + a - b) % 2 ^ 256).testBit 255 = decide (a < b) := by
  rw [testBit_255_eq (Nat.mod_lt _ (by norm_num)), decide_eq_decide]
  omega

/-! The completed states -/

section
variable (s : State) (fd fa fb : RegIdx)

theorem exec_ldi (imm : Word) :
    exec (.ldi fd imm) s = .next (complete (s.setF fd (BitVec.ofNat 256 imm.toNat))) := by
  rw [← zext256_eq_ofNat]
  rfl

theorem exec_uadd : exec (.uadd fd fa fb) s = .next (complete
    (((s.setF fd (BitVec.ofNat 256 (((s.getF fa).toNat + (s.getF fb).toNat) % 2 ^ 256))).setC
      (decide (2 ^ 256 ≤ (s.getF fa).toNat + (s.getF fb).toNat))).setS
      ((((s.getF fa).toNat + (s.getF fb).toNat) % 2 ^ 256).testBit 255))) := by
  rw [← signBit_ofNat_mod, ← add_eq_ofNat]
  rfl

theorem exec_usub : exec (.usub fd fa fb) s = .next (complete
    (((s.setF fd (BitVec.ofNat 256 ((2 ^ 256 + (s.getF fa).toNat - (s.getF fb).toNat) % 2 ^ 256))).setC
      (decide ((s.getF fa).toNat < (s.getF fb).toNat))).setS
      (((2 ^ 256 + (s.getF fa).toNat - (s.getF fb).toNat) % 2 ^ 256).testBit 255))) := by
  rw [← signBit_ofNat_mod, ← sub_eq_ofNat]
  rfl

theorem exec_uneg : exec (.uneg fd fa) s = .next (complete
    ((s.setF fd (BitVec.ofNat 256 ((2 ^ 256 - (s.getF fa).toNat) % 2 ^ 256))).setS
      (((2 ^ 256 - (s.getF fa).toNat) % 2 ^ 256).testBit 255))) := by
  rw [← signBit_ofNat_mod, ← flip_add_one_eq_ofNat]
  rfl

theorem exec_umul256 : exec (.umul256 fd fa fb) s = .next (complete
    (s.setF fd (BitVec.ofNat 256 ((s.getF fa).toNat * (s.getF fb).toNat % 2 ^ 256)))) := by
  rw [← ofNat_eq_ofNat_mod]
  rfl

theorem exec_rdw_low : exec (.rdw fd 0) s = .next (complete (s.setF fd (BitVec.ofNat 256 (s.w.toNat % 2 ^ 256)))) := by
  rw [← halfOf_zero]
  rfl

theorem exec_rdw_high : exec (.rdw fd 1) s = .next (complete (s.setF fd (BitVec.ofNat 256 (s.w.toNat / 2 ^ 256)))) := by
  rw [← halfOf_one]
  rfl

theorem exec_ueq :
    exec (.ueq fa fb) s = .next (complete (s.setZ (decide ((s.getF fa).toNat = (s.getF fb).toNat)))) := by
  rw [← equalLimbs_eq]
  rfl

/-- The field's comparison is the integers': both compare the stored limbs (R185). -/
theorem exec_feq_eq_ueq : exec (.feq fa fb) s = exec (.ueq fa fb) s := rfl

theorem exec_fisz : exec (.fisz fa) s = .next (complete (s.setZ (decide ((s.getF fa).toNat = 0)))) := by
  rw [← isZeroElem_eq]
  rfl

end

/-- Settles O36: the definitions say it, but for the zero extension of `LDI`. -/
theorem copiesAndConstants : Obligations.CopiesAndConstants :=
  fun s fd _ imm _ _ => ⟨rfl, rfl, rfl, rfl, rfl, rfl, rfl, rfl, rfl, rfl, rfl, exec_ldi s fd imm⟩

/-- Settles O37: modular arithmetic on 256-bit values, and the sign of a difference of small operands. -/
theorem integerAddSubtractNegate : Obligations.IntegerAddSubtractNegate :=
  fun s fd fa fb _ _ _ => ⟨rfl, exec_uadd s fd fa fb, rfl, exec_usub s fd fa fb, sub_testBit_eq_borrow, rfl,
    exec_uneg s fd fa⟩

/-- Settles O38: `W` has room for the product, and its halves are the remainder and the quotient by `2^256`. -/
theorem integerProducts : Obligations.IntegerProducts :=
  fun s fd fa fb _ _ _ => ⟨rfl, exec_umul256 s fd fa fb, rfl, rfl,
    toNat_ofNat_product (s.getF fa) (s.getF fb), exec_rdw_low s fd, exec_rdw_high s fd⟩

/-- Settles O39: two values are equal exactly when their numbers are. -/
theorem comparisons : Obligations.Comparisons :=
  fun s fa fb _ _ => ⟨exec_ueq s fa fb, (exec_feq_eq_ueq s fa fb).trans (exec_ueq s fa fb), exec_fisz s fa⟩

end Sys2Proof.Proofs
end

section
/-! The functions of the Montgomery engine on reduced operands: the accumulator after every round, the product, sum and
difference of Montgomery forms, and the laws of the field (41_montgomery.md R151 to R163; 42_field_element.md R174). -/

namespace Sys2Proof.Proofs

open Sys2Proof.Machine Sys2Proof.Laws

/-! The limbs of the accumulator (R154) -/

/-- A round leaves limbs, whatever it started from: those of a pass, shifted down, and a remainder. -/
theorem cioRound_limb_lt (c : Cfg) (al : List Nat) (t : Acc) (bi : Nat) : ∀ l ∈ (cioRound c al t bi).low, l < 2 ^ 32 := by
  intro l hl
  rcases List.mem_append.1 hl with hl | hl
  · exact macPass_limb_lt _ _ _ _ l (List.mem_of_mem_tail hl)
  · rw [List.mem_singleton.1 hl]
    exact Nat.mod_lt _ (by norm_num)

theorem cioRounds_limb_lt (c : Cfg) (al : List Nat) : ∀ (bs : List Nat) (t : Acc), (∀ l ∈ t.low, l < 2 ^ 32) →
    ∀ l ∈ (bs.foldl (cioRound c al) t).low, l < 2 ^ 32
  | [], _, ht => ht
  | b :: bs, t, _ => cioRounds_limb_lt c al bs _ (cioRound_limb_lt c al t b)

/-- An accumulator below `2^256` does not use its limb 8. -/
theorem Acc_top_eq_zero {t : Acc} (h : t.value < 2 ^ 256) : t.top = 0 := by
  rw [Acc.value] at h
  omega

/-- Settles O23: rounds keep the accumulator below `2N`, and `2N < 2^256` leaves limb 8 empty. -/
theorem ciosAccumulatorStaysBelowTwiceN : Obligations.CiosAccumulatorStaysBelowTwiceN := by
  intro c a b rounds hc ha _
  have hpos := hc.prime.pos
  have hn := hc.lt
  have hb : ∀ l ∈ (limbsOf b).take rounds, l < 2 ^ 32 := fun l hl => limbsOf_lt b l (List.mem_of_mem_take hl)
  obtain ⟨hlen, hlt, -⟩ := cioRounds_spec hc a ha _ Acc.zero hb rfl (by rw [Acc_zero_value]; omega)
  exact ⟨hlt, hlen, cioRounds_limb_lt c _ _ Acc.zero (by decide), Acc_top_eq_zero (by omega)⟩

/-! Montgomery forms -/

section
variable {c : Cfg} (hc : c.WellFormed)
include hc

theorem mont_toNat (x : Nat) : (c.mont x).toNat = x * 2 ^ 256 % c.n.toNat :=
  (BitVec.toNat_ofNat _ _).trans (Nat.mod_eq_of_lt ((Nat.mod_lt _ hc.prime.pos).trans c.n.isLt))

theorem mont_lt (x : Nat) : (c.mont x).toNat < c.n.toNat := by
  rw [mont_toNat hc]
  exact Nat.mod_lt _ hc.prime.pos

theorem denote_mont (x : Nat) : c.denote (c.mont x) = (x : ZMod c.n.toNat) := by
  have : Fact c.n.toNat.Prime := ⟨hc.prime⟩
  rw [Cfg.denote, mont_toNat hc, ZMod.natCast_mod, Nat.cast_mul]
  exact mul_inv_cancel_right₀ (two_pow_ne_zero hc 256) _

/-- The Montgomery form of `x` is the only reduced element that denotes `x`. -/
theorem eq_mont_of_denote {v : U256} {x : Nat} (hv : v.toNat < c.n.toNat) (h : c.denote v = (x : ZMod c.n.toNat)) :
    v = c.mont x :=
  eq_of_denote_eq hc hv (mont_lt hc x) (h.trans (denote_mont hc x).symm)

/-! The product (R151) -/

theorem monPro_mul_pow {a : U256} (ha : a.toNat < c.n.toNat) (b : U256) :
    (monPro c a b).toNat * 2 ^ 256 % c.n.toNat = a.toNat * b.toNat % c.n.toNat := by
  rw [mul_comm]
  exact (monPro_spec hc ha b).2

/-- Dividing by `2^256` is multiplying with any `R⁻¹`. -/
theorem monPro_toNat {a : U256} (ha : a.toNat < c.n.toNat) (b : U256) {rinv : Nat}
    (hr : 2 ^ 256 * rinv % c.n.toNat = 1) : (monPro c a b).toNat = a.toNat * b.toNat * rinv % c.n.toNat := by
  obtain ⟨hlt, hmod⟩ := monPro_spec hc ha b
  have hone : 2 ^ 256 * rinv ≡ 1 [MOD c.n.toNat] := hr.trans (Nat.mod_eq_of_lt hc.prime.one_lt).symm
  have key : (monPro c a b).toNat ≡ a.toNat * b.toNat * rinv [MOD c.n.toNat] :=
    calc (monPro c a b).toNat = (monPro c a b).toNat * 1 := (mul_one _).symm
      _ ≡ (monPro c a b).toNat * (2 ^ 256 * rinv) [MOD c.n.toNat] := (hone.mul_left _).symm
      _ = 2 ^ 256 * (monPro c a b).toNat * rinv := by ring
      _ ≡ a.toNat * b.toNat * rinv [MOD c.n.toNat] := hmod.mul_right _
  exact (Nat.mod_eq_of_lt hlt).symm.trans key

theorem monPro_mont (x y : Nat) : monPro c (c.mont x) (c.mont y) = c.mont (x * y % c.n.toNat) := by
  refine eq_mont_of_denote hc (monPro_lt hc (mont_lt hc x) _) ?_
  rw [denote_monPro hc (mont_lt hc x), denote_mont hc, denote_mont hc, ZMod.natCast_mod, Nat.cast_mul]

/-! The sum and the difference (R157, R159) -/

theorem monAdd_toNat_mod {a b : U256} (ha : a.toNat < c.n.toNat) (hb : b.toNat < c.n.toNat) :
    (monAdd c a b).toNat = (a.toNat + b.toNat) % c.n.toNat := by
  rw [monAdd_toNat hc ha hb, Nat.add_mod_eq_ite, Nat.mod_eq_of_lt ha, Nat.mod_eq_of_lt hb]

theorem monSub_toNat_mod {a b : U256} (ha : a.toNat < c.n.toNat) (hb : b.toNat < c.n.toNat) :
    (monSub c a b).toNat = (a.toNat + (c.n.toNat - b.toNat)) % c.n.toNat := by
  rw [monSub_toNat hc ha hb]
  split_ifs with hle
  · rw [show a.toNat + (c.n.toNat - b.toNat) = a.toNat - b.toNat + c.n.toNat by omega, Nat.add_mod_right,
      Nat.mod_eq_of_lt (by omega)]
  · rw [Nat.mod_eq_of_lt (by omega)]
    omega

theorem monAdd_mont (x y : Nat) : monAdd c (c.mont x) (c.mont y) = c.mont ((x + y) % c.n.toNat) := by
  refine eq_mont_of_denote hc (monAdd_lt hc (mont_lt hc x) (mont_lt hc y)) ?_
  rw [denote_monAdd hc (mont_lt hc x) (mont_lt hc y), denote_mont hc, denote_mont hc, ZMod.natCast_mod, Nat.cast_add]

/-- The difference of Montgomery forms is the form of every number that the difference is congruent to. -/
theorem monSub_mont {x y d : Nat} (hd : (d : ZMod c.n.toNat) = x - y) : monSub c (c.mont x) (c.mont y) = c.mont d := by
  refine eq_mont_of_denote hc (monSub_lt hc (mont_lt hc x) (mont_lt hc y)) ?_
  rw [denote_monSub hc (mont_lt hc x) (mont_lt hc y), denote_mont hc, denote_mont hc, hd]

/-! The constants and the conversions (R161, R162) -/

theorem r2_lt : c.r2.toNat < c.n.toNat := by
  rw [hc.r2]
  exact Nat.mod_lt _ hc.prime.pos

theorem r3_eq_mont : c.r3 = c.mont (2 ^ 512) := by
  apply BitVec.eq_of_toNat_eq
  rw [mont_toNat hc, hc.r3, ← pow_add]

theorem toMont_eq_mont {a : U256} (ha : a.toNat < c.n.toNat) : toMont c a = c.mont a.toNat := by
  have : Fact c.n.toNat.Prime := ⟨hc.prime⟩
  refine eq_mont_of_denote hc (monPro_lt hc ha _) ?_
  rw [toMont, denote_monPro hc ha, denote_r2 hc, Cfg.denote]
  exact inv_mul_cancel_right₀ (two_pow_ne_zero hc 256) _

theorem fromMont_lt {a : U256} (ha : a.toNat < c.n.toNat) : (fromMont c a).toNat < c.n.toNat := monPro_lt hc ha 1

theorem fromMont_mul_pow {a : U256} (ha : a.toNat < c.n.toNat) :
    (fromMont c a).toNat * 2 ^ 256 % c.n.toNat = a.toNat := by
  rw [fromMont, monPro_mul_pow hc ha, show (1 : U256).toNat = 1 from rfl, mul_one, Nat.mod_eq_of_lt ha]

/-! The laws (R163, R174): elements that denote the same are the same -/

section
variable {a b d : U256} (ha : a.toNat < c.n.toNat) (hb : b.toNat < c.n.toNat) (hd : d.toNat < c.n.toNat)
include ha

theorem fromMont_toMont : fromMont c (toMont c a) = a := by
  have : Fact c.n.toNat.Prime := ⟨hc.prime⟩
  have hta : (toMont c a).toNat < c.n.toNat := monPro_lt hc ha _
  refine eq_of_denote_eq hc (fromMont_lt hc hta) ha ?_
  rw [fromMont, denote_monPro hc hta, toMont_eq_mont hc ha, denote_mont hc, Cfg.denote, Cfg.denote,
    show (1 : U256).toNat = 1 from rfl, Nat.cast_one, one_mul]

theorem monPro_oneM : monPro c a c.oneM = a := by
  refine eq_of_denote_eq hc (monPro_lt hc ha _) ha ?_
  rw [denote_monPro hc ha, denote_oneM hc, mul_one]

include hb

theorem monPro_comm : monPro c a b = monPro c b a := by
  refine eq_of_denote_eq hc (monPro_lt hc ha _) (monPro_lt hc hb _) ?_
  rw [denote_monPro hc ha, denote_monPro hc hb, mul_comm]

theorem monAdd_comm : monAdd c a b = monAdd c b a := by
  refine eq_of_denote_eq hc (monAdd_lt hc ha hb) (monAdd_lt hc hb ha) ?_
  rw [denote_monAdd hc ha hb, denote_monAdd hc hb ha, add_comm]

theorem monPro_assoc (e : U256) : monPro c (monPro c a b) e = monPro c a (monPro c b e) := by
  have hab := monPro_lt hc ha b
  refine eq_of_denote_eq hc (monPro_lt hc hab _) (monPro_lt hc ha _) ?_
  rw [denote_monPro hc hab, denote_monPro hc ha, denote_monPro hc ha, denote_monPro hc hb, mul_assoc]

include hd

theorem monPro_monAdd : monPro c a (monAdd c b d) = monAdd c (monPro c a b) (monPro c a d) := by
  have hab := monPro_lt hc ha b
  have had := monPro_lt hc ha d
  refine eq_of_denote_eq hc (monPro_lt hc ha _) (monAdd_lt hc hab had) ?_
  rw [denote_monPro hc ha, denote_monAdd hc hb hd, denote_monAdd hc hab had, denote_monPro hc ha, denote_monPro hc ha,
    mul_add]

end

theorem monPro_r2_r2 : monPro c c.r2 c.r2 = c.r3 := by
  rw [r3_eq_mont hc]
  refine eq_mont_of_denote hc (monPro_lt hc (r2_lt hc) _) ?_
  rw [denote_monPro hc (r2_lt hc), denote_r2 hc, ← Nat.cast_mul, ← pow_add]

end

/-- Settles O22: eight rounds divide `a · b` by `R` modulo `N`, so that the factor `R` of one of the two forms goes. -/
theorem ciosComputesTheMontgomeryProduct : Obligations.CiosComputesTheMontgomeryProduct :=
  fun _ hc => ⟨fun _ b ha _ => ⟨monPro_lt hc ha b, fun _ hr => monPro_toNat hc ha b hr⟩, monPro_mont hc⟩

/-- Settles O25: the correction by the sign bit is the reduction, and Montgomery form is linear. -/
theorem monAddMonSubAreModular : Obligations.MonAddMonSubAreModular := by
  intro c hc
  refine ⟨fun a b ha hb => ⟨monAdd_toNat_mod hc ha hb, monSub_toNat_mod hc ha hb⟩,
    fun x y => ⟨monAdd_mont hc x y, fun hle => monSub_mont hc ?_, fun hlt hn => monSub_mont hc ?_⟩⟩
  · rw [ZMod.natCast_mod, Nat.cast_sub hle]
  · rw [Nat.cast_sub (by omega), Nat.cast_sub hlt.le, ZMod.natCast_self]
    ring

/-- Settles O26: the laws of the field, carried to reduced elements by what they denote. -/
theorem fieldLaws : Obligations.FieldLaws :=
  fun _ _ _ d hc ha hb hd => ⟨fromMont_toMont hc ha, monPro_oneM hc ha, monPro_comm hc ha hb, monAdd_comm hc ha hb,
    monPro_monAdd hc ha hb hd, monPro_assoc hc ha hb d, monPro_oneM hc (r2_lt hc), monPro_r2_r2 hc⟩

end Sys2Proof.Proofs
end

section
/-! The commands of the Montgomery engine on reduced operands: the register they write and the value in it
(41_montgomery.md R153, R158, R160 to R162). -/

namespace Sys2Proof.Proofs

open Sys2Proof.Machine Sys2Proof.Laws

section
variable {s : State} {fa fb : RegIdx} (fd : RegIdx) (ha : (s.getF fa).toNat < s.cfg.n.toNat)
  (hb : (s.getF fb).toNat < s.cfg.n.toNat)
include ha

/-- On a reduced operand the result is the computed one and not a free value (U1). -/
theorem unaryElem_of_reduced (op : Cfg → U256 → U256) : unaryElem op fd fa s = s.setF fd (op s.cfg (s.getF fa)) := by
  rw [unaryElem, (isReduced_iff _ _).2 ha, putElem_true]

theorem exec_tomont : exec (.tomont fd fa) s = .next (complete (s.setF fd (toMont s.cfg (s.getF fa)))) := by
  rw [← unaryElem_of_reduced fd ha]
  rfl

theorem exec_frommont : exec (.frommont fd fa) s = .next (complete (s.setF fd (fromMont s.cfg (s.getF fa)))) := by
  rw [← unaryElem_of_reduced fd ha]
  rfl

include hb

theorem binaryElem_of_reduced (op : Cfg → U256 → U256 → U256) :
    binaryElem op fd fa fb s = s.setF fd (op s.cfg (s.getF fa) (s.getF fb)) := by
  rw [binaryElem, (isReduced_iff _ _).2 ha, (isReduced_iff _ _).2 hb, Bool.and_self, putElem_true]

theorem exec_monpro :
    exec (.monpro fd fa fb) s = .next (complete (s.setF fd (monPro s.cfg (s.getF fa) (s.getF fb)))) := by
  rw [← binaryElem_of_reduced fd ha hb]
  rfl

theorem exec_monadd :
    exec (.monadd fd fa fb) s = .next (complete (s.setF fd (monAdd s.cfg (s.getF fa) (s.getF fb)))) := by
  rw [← binaryElem_of_reduced fd ha hb]
  rfl

theorem exec_monsub :
    exec (.monsub fd fa fb) s = .next (complete (s.setF fd (monSub s.cfg (s.getF fa) (s.getF fb)))) := by
  rw [← binaryElem_of_reduced fd ha hb]
  rfl

end

/-- Settles O40: each command writes its function's value, and the facts about the functions give the number. -/
theorem montgomeryCommands : Obligations.MontgomeryCommands := by
  intro s fd fa fb hc _ _ _ ha hb
  have htomont : (toMont s.cfg (s.getF fa)).toNat = (s.getF fa).toNat * 2 ^ 256 % s.cfg.n.toNat := by
    rw [toMont_eq_mont hc ha, mont_toNat hc]
  exact ⟨⟨_, exec_monpro fd ha hb, monPro_lt hc ha _, monPro_mul_pow hc ha _⟩,
    ⟨_, exec_monadd fd ha hb, monAdd_toNat_mod hc ha hb⟩,
    ⟨_, exec_monsub fd ha hb, monSub_toNat_mod hc ha hb⟩,
    ⟨_, exec_tomont fd ha, htomont⟩,
    ⟨_, exec_frommont fd ha, fromMont_lt hc ha, fromMont_mul_pow hc ha⟩⟩

end Sys2Proof.Proofs
end

section
/-! The inverse unit inverts what an element denotes (42_field_element.md R177, R178; 43_fft.md R212). -/

namespace Sys2Proof.Proofs

open Sys2Proof.Machine Sys2Proof.Laws

theorem denote_zero (c : Cfg) : c.denote 0 = 0 := by
  rw [Cfg.denote, show (0 : U256).toNat = 0 from rfl, Nat.cast_zero, zero_mul]

@[simp] theorem fieldInverse_zero (c : Cfg) : fieldInverse c 0 = 0 := if_pos rfl

section
variable {c : Cfg} (hc : c.WellFormed)
include hc

theorem denote_eq_zero_iff {a : U256} (ha : a.toNat < c.n.toNat) : c.denote a = 0 ↔ a = 0 := by
  rw [← denote_zero c]
  exact ⟨eq_of_denote_eq hc ha (zero_lt_modulus hc), congrArg c.denote⟩

theorem denote_r3 : c.denote c.r3 = ((2 ^ 256 : Nat) : ZMod c.n.toNat) * ((2 ^ 256 : Nat) : ZMod c.n.toNat) := by
  rw [r3_eq_mont hc, denote_mont hc, ← Nat.cast_mul, ← pow_add]

/-- The inverse unit computes the inverse in the field, where `0⁻¹ = 0`: of the operand `x · R` it makes `(x · R)⁻¹`, and
`MonPro` with `R3` brings in the `R²` that is missing from `x⁻¹ · R`. -/
theorem denote_fieldInverse {a : U256} (ha : a.toNat < c.n.toNat) : c.denote (fieldInverse c a) = (c.denote a)⁻¹ := by
  have : Fact c.n.toNat.Prime := ⟨hc.prime⟩
  by_cases h0 : a = 0
  · rw [h0, fieldInverse_zero, denote_zero, inv_zero]
  · have hden : c.denote a ≠ 0 := mt (denote_eq_zero_iff hc ha).1 h0
    have hcast : (a.toNat : ZMod c.n.toNat) ≠ 0 := left_ne_zero_of_mul hden
    rw [fieldInverse, if_neg h0, denote_monPro hc (modInverse_lt hc _), denote_r3 hc, Cfg.denote, Cfg.denote,
      modInverse_cast hc hcast, mul_inv, inv_inv, ← mul_assoc, inv_mul_cancel_right₀ (two_pow_ne_zero hc 256)]

theorem monPro_fieldInverse {a : U256} (ha : a.toNat < c.n.toNat) (h0 : a ≠ 0) :
    monPro c a (fieldInverse c a) = c.oneM := by
  have : Fact c.n.toNat.Prime := ⟨hc.prime⟩
  refine eq_of_denote_eq hc (monPro_lt hc ha _) (oneM_lt hc) ?_
  rw [denote_monPro hc ha, denote_fieldInverse hc ha, denote_oneM hc]
  exact mul_inv_cancel₀ (mt (denote_eq_zero_iff hc ha).1 h0)

theorem fieldInverse_fieldInverse {a : U256} (ha : a.toNat < c.n.toNat) : fieldInverse c (fieldInverse c a) = a := by
  have : Fact c.n.toNat.Prime := ⟨hc.prime⟩
  refine eq_of_denote_eq hc (fieldInverse_lt hc _) ha ?_
  rw [denote_fieldInverse hc (fieldInverse_lt hc a), denote_fieldInverse hc ha, inv_inv]

/-- Every power of two is invertible modulo the odd prime `N`, and so every length. -/
theorem monPro_lengthInverse (k : Nat) : monPro c (lengthInverse c (2 ^ k)) (c.mont (2 ^ k)) = c.oneM := by
  have : Fact c.n.toNat.Prime := ⟨hc.prime⟩
  have hlt := lengthInverse_lt hc (2 ^ k)
  refine eq_of_denote_eq hc (monPro_lt hc hlt _) (oneM_lt hc) ?_
  rw [denote_monPro hc hlt, denote_lengthInverse hc (two_pow_ne_zero hc k), denote_mont hc, denote_oneM hc]
  exact inv_mul_cancel₀ (two_pow_ne_zero hc k)

end

/-- Settles O27: the unit's results denote inverses in the field, and reduced elements that denote the same are the
same. -/
theorem inverseUnitInverts : Obligations.InverseUnitInverts :=
  fun c hc => ⟨fieldInverse_zero c,
    fun a ha h0 => ⟨fieldInverse_lt hc a, monPro_fieldInverse hc ha h0, fieldInverse_fieldInverse hc ha,
      denote_fieldInverse hc ha⟩,
    fun k _ => monPro_lengthInverse hc k⟩

end Sys2Proof.Proofs
end

section
/-! The commands of FieldElement with one operand or none: the register they write and the value in it
(42_field_element.md R175 to R177, R179 to R181, R183, R184). -/

namespace Sys2Proof.Proofs

open Sys2Proof.Machine Sys2Proof.Laws

/-! One operand (R175 to R177, R183, R184) -/

theorem monSub_zero_toNat {c : Cfg} (hc : c.WellFormed) {a : U256} (ha : a.toNat < c.n.toNat) :
    (monSub c 0 a).toNat = if a.toNat = 0 then 0 else c.n.toNat - a.toNat := by
  have hzero : (0 : U256).toNat = 0 := rfl
  simp only [monSub_toNat hc (zero_lt_modulus hc) ha, hzero, Nat.le_zero, Nat.zero_sub, Nat.zero_add]

section
variable {s : State} {fa : RegIdx} (fd : RegIdx)

/-- The checked import refuses an integer that is not canonical (R183). -/
theorem exec_ffromcan_of_not_reduced (ha : s.cfg.n.toNat ≤ (s.getF fa).toNat) :
    exec (.ffromcan fd fa) s = .next (raise ⟨.range, limb (s.getF fa) 7, limb (s.getF fa) 0, 0⟩ s) := by
  have hred : ¬ isReduced s.cfg (s.getF fa) = true := fun h => Nat.not_lt.2 ha ((isReduced_iff _ _).1 h)
  exact congrArg (settle s) (if_neg hred)

variable (ha : (s.getF fa).toNat < s.cfg.n.toNat)
include ha

/-- A canonical integer is imported as its Montgomery form (R183). -/
theorem exec_ffromcan_of_reduced (hc : s.cfg.WellFormed) :
    exec (.ffromcan fd fa) s = .next (complete (s.setF fd (s.cfg.mont (s.getF fa).toNat))) := by
  rw [← toMont_eq_mont hc ha]
  exact congrArg (settle s) (if_pos ((isReduced_iff _ _).2 ha))

theorem exec_fsqr : exec (.fsqr fd fa) s = .next (complete (s.setF fd (monPro s.cfg (s.getF fa) (s.getF fa)))) := by
  rw [← unaryElem_of_reduced fd ha fun c a => monPro c a a]
  rfl

theorem exec_fneg : exec (.fneg fd fa) s = .next (complete (s.setF fd (monSub s.cfg 0 (s.getF fa)))) := by
  rw [← unaryElem_of_reduced fd ha fun c a => monSub c 0 a]
  rfl

theorem exec_finv : exec (.finv fd fa) s = .next (complete (s.setF fd (fieldInverse s.cfg (s.getF fa)))) := by
  rw [← unaryElem_of_reduced fd ha]
  rfl

theorem exec_ftocan : exec (.ftocan fd fa) s = .next (complete (s.setF fd (fromMont s.cfg (s.getF fa)))) := by
  rw [← unaryElem_of_reduced fd ha]
  rfl

end

/-- Settles O41: each command writes its function's value, and the facts about the functions give the number. -/
theorem fieldUnaryCommands : Obligations.FieldUnaryCommands := by
  intro s fd fa hc _ _
  refine ⟨exec_ffromcan_of_not_reduced fd, fun ha => ?_⟩
  have hinv : if (s.getF fa).toNat = 0 then fieldInverse s.cfg (s.getF fa) = 0
      else monPro s.cfg (s.getF fa) (fieldInverse s.cfg (s.getF fa)) = s.cfg.oneM := by
    split_ifs with h0
    · rw [BitVec.eq_of_toNat_eq (y := 0) h0, fieldInverse_zero]
    · exact monPro_fieldInverse hc ha fun h => h0 (congrArg BitVec.toNat h)
  exact ⟨exec_ffromcan_of_reduced fd ha hc,
    ⟨_, exec_fsqr fd ha, monPro_lt hc ha _, monPro_mul_pow hc ha _⟩,
    ⟨_, exec_fneg fd ha, monSub_zero_toNat hc ha⟩,
    ⟨_, exec_finv fd ha, fieldInverse_lt hc _, hinv⟩,
    ⟨_, exec_ftocan fd ha, fromMont_lt hc ha, fromMont_mul_pow hc ha⟩⟩

/-! The root table (R181) -/

theorem operand64_toNat (x y : Word) : (operand64 x y).toNat = x.toNat + 2 ^ 32 * y.toNat := by
  rw [operand64, BitVec.toNat_append, Nat.shiftLeft_eq, mul_comm, ← Nat.two_pow_add_eq_or_of_lt x.isLt, add_comm]

section
variable {c : Cfg} {x y : Word}

theorem rootLookupTrap_of_order {k : Nat} (h : (operand64 x y).toNat = 2 ^ k) (hk : k ≤ c.maxLog) :
    rootLookupTrap c x y = none := by
  have hmax := maxLog_le c
  have h62 : ¬ 62 < k := by omega
  simp [rootLookupTrap, h, isPow2_pow, Nat.log2_two_pow, h62, hk]

/-- An order that is a power of two is that of its logarithm, so the check by logarithm misses none. -/
theorem rootLookupTrap_of_no_order (h : ∀ k, (operand64 x y).toNat = 2 ^ k → c.maxLog < k) :
    rootLookupTrap c x y = some ⟨.rootOrder, x, y, 0⟩ := by
  by_cases hp : isPow2 (operand64 x y).toNat = true
  · have hlog := h _ (eq_two_pow_log2 hp)
    simp [rootLookupTrap, hlog]
  · simp [rootLookupTrap, hp]

end

theorem exec_froot (s : State) (fd : RegIdx) (x y : Word) : exec (.froot fd x y) s =
    settle s (guarded (rootLookupTrap s.cfg x y) (s.setF fd (s.cfg.rootAt (operand64 x y).toNat.log2)).setRinit) := rfl

/-- Settles O43: the check passes exactly for the orders in the table, and the logarithm of `2^k` is `k`. -/
theorem rootLookup : Obligations.RootLookup := by
  intro s fd x y _
  refine ⟨fun k horder hk => ?_, fun hno => ?_⟩
  · have hop := (operand64_toNat x y).trans horder
    rw [exec_froot, rootLookupTrap_of_order hop hk, hop, Nat.log2_two_pow]
    rfl
  · rw [← operand64_toNat] at hno
    rw [exec_froot, rootLookupTrap_of_no_order hno]
    rfl

/-! Random elements (R179, R180) -/

/-- Settles O42: a free value brought into the field is reduced, and that of a seed depends on nothing else. -/
theorem randomElements : Obligations.RandomElements := by
  refine ⟨fun s fd hc _ => ?_, fun c x y hc => ?_⟩
  · exact ⟨_, intoField_lt hc (Config.randomElement s.draws), rfl⟩
  · refine ⟨_, intoField_lt hc (Config.seededElement c (operand64 x y)), ?_⟩
    rintro s fd rfl _
    rfl

end Sys2Proof.Proofs
end

section
/-! The defining sums of the transform and of its inverse (43_fft.md R201, R212): what they denote, that the recursive
algorithm gives them, and that the two transforms undo each other (R204, R214(a)). -/

namespace Sys2Proof.Proofs

open Sys2Proof.Machine Sys2Proof.Laws

theorem map_range_getD {α : Type} (f : Nat → α) {n i : Nat} (hi : i < n) (d : α) : ((List.range n).map f).getD i d = f i := by
  simp [List.getD_eq_getElem?_getD, hi]

section
variable {c : Cfg} (hc : c.WellFormed)
include hc

/-- Reduced vectors that denote the same elements are the same. -/
theorem eq_of_denote_getD {n : Nat} {u v : List U256} (hu : u.length = n) (hv : v.length = n) (hru : allReduced c u = true)
    (hrv : allReduced c v = true) (h : ∀ i, i < n → c.denote (u.getD i 0) = c.denote (v.getD i 0)) : u = v := by
  refine List.ext_getElem (hu.trans hv.symm) fun i h1 h2 => ?_
  rw [← List.getD_eq_getElem _ 0 h1, ← List.getD_eq_getElem _ 0 h2]
  exact eq_of_denote_eq hc (allReduced_getD hc hru i) (allReduced_getD hc hrv i) (h i (hu ▸ h1))

/-! The defining sum (R201) -/

/-- Summing reduced elements with `MonAdd` is the sum in the field. -/
theorem foldl_monAdd_spec {f : Nat → U256} (hf : ∀ j, (f j).toNat < c.n.toNat) : ∀ n,
    (((List.range n).map f).foldl (monAdd c) 0).toNat < c.n.toNat ∧
      c.denote (((List.range n).map f).foldl (monAdd c) 0) = ∑ j ∈ Finset.range n, c.denote (f j)
  | 0 => ⟨zero_lt_modulus hc, denote_zero c⟩
  | n + 1 => by
    obtain ⟨hlt, hsum⟩ := foldl_monAdd_spec hf n
    rw [List.range_succ, List.map_append, List.foldl_append, Finset.sum_range_succ, ← hsum]
    exact ⟨monAdd_lt hc hlt (hf n), denote_monAdd hc hlt (hf n)⟩

section
variable {v : List U256} (hr : allReduced c v = true)
include hr

theorem dftSum_spec {w : U256} (hw : w.toNat < c.n.toNat) (i : Nat) :
    (dftSum c w v i).toNat < c.n.toNat ∧ c.denote (dftSum c w v i) = evalAt c (c.denote w ^ i) v := by
  have hv := allReduced_getD hc hr
  obtain ⟨hlt, hsum⟩ := foldl_monAdd_spec hc (f := fun j => monPro c (v.getD j 0) (fieldPow c w (i * j)))
    (fun j => monPro_lt hc (hv j) _) v.length
  refine ⟨hlt, hsum.trans ?_⟩
  rw [evalAt_eq_sum]
  exact Finset.sum_congr rfl fun j _ => by rw [denote_monPro hc (hv j), denote_fieldPow hc hw, pow_mul]

variable {k : Nat} (hk : k ≤ c.maxLog)
include hk

theorem dft_allReduced : allReduced c (dft c k v) = true := by
  rw [allReduced_iff]
  intro x hx
  obtain ⟨i, -, rfl⟩ := List.mem_map.1 hx
  exact (dftSum_spec hc hr (hc.root_lt k hk) i).1

/-- Element `i` of the transform is the value of the vector's polynomial at the `i`-th power of the root. -/
theorem denote_dft {i : Nat} (hi : i < 2 ^ k) :
    c.denote ((dft c k v).getD i 0) = evalAt c (c.denote (c.rootAt k) ^ i) v := by
  rw [dft, map_range_getD _ hi]
  exact (dftSum_spec hc hr (hc.root_lt k hk) i).2

/-- A reduced vector of the values at the powers of the root is the transform. -/
theorem eq_dft_of_denote {y : List U256} (hy : y.length = 2 ^ k) (hry : allReduced c y = true)
    (h : ∀ i, i < 2 ^ k → c.denote (y.getD i 0) = evalAt c (c.denote (c.rootAt k) ^ i) v) : y = dft c k v :=
  eq_of_denote_getD hc hy (dft_length c k v) hry (dft_allReduced hc hr hk) fun i hi => by rw [h i hi, denote_dft hc hr hk hi]

variable (hv : v.length = 2 ^ k)
include hv

/-- R204: the recursive algorithm computes the transform. -/
theorem recFft_eq_dft : recFft c k v = dft c k v :=
  eq_dft_of_denote hc hr hk (recFft_length c k v hv) (recFft_allReduced hc k v hr) (denote_recFft hc k v hk hv hr)

/-- Element `j` of the inverse transform (R212). -/
theorem denote_invFft {j : Nat} (hj : j < 2 ^ k) :
    c.denote ((invFft c k v).getD j 0) =
      ((2 ^ k : Nat) : ZMod c.n.toNat)⁻¹ * evalAt c (c.denote (c.rootAt k) ^ ((2 ^ k - j) % 2 ^ k)) v := by
  rw [invFft, map_range_getD _ hj, denote_monPro hc (lengthInverse_lt hc _), denote_lengthInverse hc (two_pow_ne_zero hc k),
    denote_recFft hc k v hk hv hr _ (Nat.mod_lt _ (by positivity))]

end

end

/-- Settles O29: both vectors are reduced and hold the values at the powers of the root. -/
theorem recursiveTransformIsTheTransform : Obligations.RecursiveTransformIsTheTransform := by
  intro c k v hc hk hv hr
  refine ⟨recFft_eq_dft hc hr hk hv, dft_allReduced hc hr hk, fun i hi => ?_⟩
  rw [denote_dft hc hr hk hi, evalAt_eq_sum, hv]
  exact Finset.sum_congr rfl fun j _ => by rw [pow_mul]

/-! The two transforms undo each other (R214(a)) -/

/-- Reading the powers of a root of unity backwards inverts it. -/
theorem pow_sub_mod_eq_inv {F : Type} [Field F] {n j : Nat} {w : F} (hw : IsPrimitiveRoot w n) (hj : j < n) :
    w ^ ((n - j) % n) = w⁻¹ ^ j := by
  rw [← pow_eq_pow_mod _ hw.pow_eq_one, inv_pow]
  refine eq_inv_of_mul_eq_one_left ?_
  rw [← pow_add, Nat.sub_add_cancel hj.le, hw.pow_eq_one]

/-- The sum of `inverse_sum` at the inverse root: there the values are read forwards and the outer powers backwards. -/
theorem inverse_sum_backwards {F : Type} [Field F] {n : Nat} {w : F} (hw : IsPrimitiveRoot w n) (hn : (n : F) ≠ 0)
    (a : Nat → F) {i : Nat} (hi : i < n) :
    (n : F)⁻¹ * ∑ j ∈ Finset.range n, (∑ l ∈ Finset.range n, a l * (w ^ j) ^ l) * (w ^ ((n - i) % n)) ^ j = a i := by
  rw [← inverse_sum hw.inv hn a hi, Finset.mul_sum]
  refine Finset.sum_congr rfl fun j hj => ?_
  rw [pow_sub_mod_eq_inv hw.inv (Finset.mem_range.1 hj), inv_inv, pow_sub_mod_eq_inv hw hi, mul_assoc]

theorem invFft_dft {c : Cfg} (hc : c.WellFormed) {k : Nat} {v : List U256} (hk : k ≤ c.maxLog) (hv : v.length = 2 ^ k)
    (hr : allReduced c v = true) : invFft c k (dft c k v) = v := by
  have : Fact c.n.toNat.Prime := ⟨hc.prime⟩
  have hlen := dft_length c k v
  have hvalue : ∀ j ∈ Finset.range (2 ^ k), c.denote ((dft c k v).getD j 0) =
      ∑ l ∈ Finset.range (2 ^ k), c.denote (v.getD l 0) * (c.denote (c.rootAt k) ^ j) ^ l := by
    intro j hj
    rw [denote_dft hc hr hk (Finset.mem_range.1 hj), evalAt_eq_sum, hv]
  refine eq_of_denote_getD hc (invFft_length c k _) hv (invFft_allReduced hc k _) hr fun i hi => ?_
  rw [denote_invFft hc (dft_allReduced hc hr hk) hk hlen hi, evalAt_eq_sum, hlen,
    Finset.sum_congr rfl fun j hj => by rw [hvalue j hj]]
  exact inverse_sum_backwards (root_isPrimitiveRoot hc k hk) (two_pow_ne_zero hc k) (fun l => c.denote (v.getD l 0)) hi

theorem dft_invFft {c : Cfg} (hc : c.WellFormed) {k : Nat} {v : List U256} (hk : k ≤ c.maxLog) (hv : v.length = 2 ^ k)
    (hr : allReduced c v = true) : dft c k (invFft c k v) = v := by
  rw [← recFft_eq_dft hc (invFft_allReduced hc k v) hk (invFft_length c k v)]
  exact recFft_invFft hc hk hv hr

/-- Settles O32: the orthogonality of the root's powers, for the root and for its inverse. -/
theorem inverseTransformInverts : Obligations.InverseTransformInverts :=
  fun _ k v hc hk hv hr => ⟨invFft_dft hc hk hv hr, dft_invFft hc hk hv hr, invFft_allReduced hc k v⟩

end Sys2Proof.Proofs
end

section
/-! The iterative radix-2 algorithm: bit reversal and the stages split into the even and the odd half, so that the algorithm
satisfies the recursion of R203 (43_fft.md R206, R207). -/

namespace Sys2Proof.Proofs

open Sys2Proof.Machine Sys2Proof.Laws

/-! Bit reversal (R206) -/

theorem evens_odds_getD : ∀ (v : List U256) (i : Nat),
    (evens v).getD i 0 = v.getD (2 * i) 0 ∧ (odds v).getD i 0 = v.getD (2 * i + 1) 0
  | [], _ => by simp [evens, odds]
  | [a], 0 => by simp [evens, odds]
  | [a], i + 1 => by simp [evens, odds, Nat.mul_add]
  | a :: b :: v, 0 => by simp [evens, odds]
  | a :: b :: v, i + 1 => by
    have ih := evens_odds_getD v i
    simpa [evens, odds, Nat.mul_add] using ih

/-- The top bit of a number is the lowest bit of its reversal. -/
theorem bitReverse_top (q : Nat) (hq : q < 2) : ∀ k i, i < 2 ^ k →
    bitReverse (k + 1) (2 ^ k * q + i) = 2 * bitReverse k i + q
  | 0, i, hi => by
    have : i = 0 := by simpa using hi
    simp [bitReverse, this, Nat.mod_eq_of_lt hq]
  | k + 1, i, hi => by
    rw [pow_succ] at hi
    have ih := bitReverse_top q hq k (i / 2) (by omega)
    have hmod : (2 ^ (k + 1) * q + i) % 2 = i % 2 := by rw [pow_succ', mul_assoc, Nat.mul_add_mod]
    have hdiv : (2 ^ (k + 1) * q + i) / 2 = 2 ^ k * q + i / 2 := by
      rw [pow_succ', mul_assoc, Nat.mul_add_div two_pos]
    rw [bitReverse, hmod, hdiv, ih, bitReverse]
    ring

/-- Bit reversal sends the even-indexed elements to the first half and the odd-indexed ones to the second. -/
theorem bitReversePermute_succ (k : Nat) (v : List U256) :
    bitReversePermute (k + 1) v = bitReversePermute k (evens v) ++ bitReversePermute k (odds v) := by
  have hlow : ∀ i ∈ List.range (2 ^ k), v.getD (bitReverse (k + 1) i) 0 = (evens v).getD (bitReverse k i) 0 := by
    intro i hi
    have := bitReverse_top 0 two_pos k i (List.mem_range.1 hi)
    rw [mul_zero, zero_add, add_zero] at this
    rw [this, (evens_odds_getD v _).1]
  have hhigh : ∀ i ∈ List.range (2 ^ k), v.getD (bitReverse (k + 1) (2 ^ k + i)) 0 = (odds v).getD (bitReverse k i) 0 := by
    intro i hi
    have := bitReverse_top 1 one_lt_two k i (List.mem_range.1 hi)
    rw [mul_one] at this
    rw [this, (evens_odds_getD v _).2]
  rw [bitReversePermute, pow_succ, mul_two, List.range_add, List.map_append, List.map_map]
  exact congrArg₂ (· ++ ·) (List.map_congr_left hlow) (List.map_congr_left hhigh)

@[simp] theorem bitReversePermute_length (k : Nat) (v : List U256) : (bitReversePermute k v).length = 2 ^ k := by
  simp [bitReversePermute]

theorem bitReversePermute_zero {v : List U256} (hv : v.length = 1) : bitReversePermute 0 v = v := by
  obtain ⟨a, rfl⟩ := List.length_eq_one_iff.1 hv
  rfl

/-! The stages (R207) -/

section
variable {c : Cfg}

/-- A stage joins the blocks of the first vector and then those of the second. -/
theorem stageBlocks_append (w : U256) (h n : Nat) (v : List U256) : ∀ (m : Nat) (u : List U256), u.length = m * (2 * h) →
    stageBlocks c w h (m + n) (u ++ v) = stageBlocks c w h m u ++ stageBlocks c w h n v
  | 0, u, hu => by
    have : u = [] := by simpa using hu
    simp [this, stageBlocks]
  | m + 1, u, hu => by
    rw [Nat.add_mul, Nat.one_mul] at hu
    have ih := stageBlocks_append w h n v m (u.drop (2 * h)) (by rw [List.length_drop]; omega)
    rw [show m + 1 + n = m + n + 1 by omega, stageBlocks, stageBlocks, List.take_append_of_le_length (by omega),
      List.drop_append_of_le_length (by omega), List.drop_append_of_le_length (by omega),
      List.take_append_of_le_length (by rw [List.length_drop]; omega), ih, List.append_assoc]

theorem stageBlocks_one (w : U256) (h : Nat) (v : List U256) :
    stageBlocks c w h 1 v = combine c w (v.take h) ((v.drop h).take h) := List.append_nil _

variable (hc : c.WellFormed) {w : U256} (hw : w.toNat < c.n.toNat) {k : Nat}
include hc hw

/-- A stage before the last works on the two halves alone, each with the square of the root. -/
theorem radix2Stage_halves {u v : List U256} {s : Nat} (h1 : 1 ≤ s) (hs : s ≤ k) (hu : u.length = 2 ^ k) :
    radix2Stage c (k + 1) w (u ++ v) s = radix2Stage c k (monPro c w w) u s ++ radix2Stage c k (monPro c w w) v s := by
  have hcount : 2 ^ (k + 1 - s) = 2 ^ (k - s) + 2 ^ (k - s) := by rw [Nat.succ_sub hs, pow_succ, mul_two]
  have hblocks : u.length = 2 ^ (k - s) * (2 * 2 ^ (s - 1)) := by
    rw [hu, ← pow_succ', ← pow_add]
    congr 1
    omega
  have hsq := monPro_lt hc hw w
  have hroot : fieldPow c w (2 ^ (k + 1 - s)) = fieldPow c (monPro c w w) (2 ^ (k - s)) := by
    refine eq_of_denote_eq hc (fieldPow_lt hc hw _) (fieldPow_lt hc hsq _) ?_
    rw [denote_fieldPow hc hw, denote_fieldPow hc hsq, denote_monPro hc hw, hcount, pow_add, mul_pow]
  rw [radix2Stage, hroot, hcount, stageBlocks_append _ _ _ v _ u hblocks]
  rfl

theorem radix2Stages_halves : ∀ (l : List Nat) {u v : List U256}, (∀ s ∈ l, 1 ≤ s ∧ s ≤ k) → u.length = 2 ^ k →
    v.length = 2 ^ k → l.foldl (radix2Stage c (k + 1) w) (u ++ v) =
      l.foldl (radix2Stage c k (monPro c w w)) u ++ l.foldl (radix2Stage c k (monPro c w w)) v
  | [], _, _, _, _, _ => rfl
  | s :: l, u, v, hl, hu, hv => by
    obtain ⟨⟨h1, hs⟩, hl⟩ := List.forall_mem_cons.1 hl
    rw [List.foldl_cons, List.foldl_cons, List.foldl_cons, radix2Stage_halves hc hw h1 hs hu]
    exact radix2Stages_halves l hl (radix2Stage_length c k _ u s h1 hs hu) (radix2Stage_length c k _ v s h1 hs hv)

/-- The last stage joins the two halves with the root itself. -/
theorem radix2Stage_last {u v : List U256} (hu : u.length = 2 ^ k) (hv : v.length = 2 ^ k) :
    radix2Stage c (k + 1) w (u ++ v) (k + 1) = combine c w u v := by
  have hroot : fieldPow c w 1 = w :=
    eq_of_denote_eq hc (fieldPow_lt hc hw _) hw (by rw [denote_fieldPow hc hw, pow_one])
  rw [radix2Stage, Nat.sub_self, Nat.add_sub_cancel, pow_zero, hroot, stageBlocks_one,
    List.take_left' hu, List.drop_left' hu, List.take_of_length_le hv.le]

/-- The iterative algorithm satisfies the recursion of R203, at any reduced root. -/
theorem radix2Fft_succ (v : List U256) : radix2Fft c (k + 1) w v =
    combine c w (radix2Fft c k (monPro c w w) (evens v)) (radix2Fft c k (monPro c w w) (odds v)) := by
  have hstages : ∀ s ∈ (List.range k).map (· + 1), 1 ≤ s ∧ s ≤ k := by
    intro s hs
    obtain ⟨i, hi, rfl⟩ := List.mem_map.1 hs
    exact ⟨Nat.le_add_left 1 i, List.mem_range.1 hi⟩
  rw [← radix2Stage_last hc hw (radix2Fft_length c k _ _) (radix2Fft_length c k _ _), radix2Fft, bitReversePermute_succ,
    List.range_succ, List.map_append, List.foldl_append, radix2Stages_halves hc hw _ hstages (bitReversePermute_length _ _)
      (bitReversePermute_length _ _)]
  rfl

end

section
variable {c : Cfg} (hc : c.WellFormed)
include hc

theorem radix2Fft_allReduced : ∀ k {w : U256} {v : List U256}, w.toNat < c.n.toNat → v.length = 2 ^ k →
    allReduced c v = true → allReduced c (radix2Fft c k w v) = true
  | 0, _, v, _, hv, hr => (congrArg (allReduced c) (bitReversePermute_zero hv)).trans hr
  | k + 1, w, v, hw, hv, hr => by
    rw [radix2Fft_succ hc hw]
    exact combine_allReduced hc w
      (radix2Fft_allReduced k (monPro_lt hc hw w) (halves_length hv).1 (allReduced_evens_odds v hr).1)

/-- R207: with the table's root both algorithms satisfy one recursion. -/
theorem radix2Fft_eq_recFft : ∀ k {v : List U256}, k ≤ c.maxLog → v.length = 2 ^ k →
    radix2Fft c k (c.rootAt k) v = recFft c k v
  | 0, _, _, hv => bitReversePermute_zero hv
  | k + 1, v, hk, hv => by
    obtain ⟨he, ho⟩ := halves_length hv
    have hlt := hc.root_lt (k + 1) hk
    have hsq : monPro c (c.rootAt (k + 1)) (c.rootAt (k + 1)) = c.rootAt k :=
      ((rootTableIsATowerOfPrimitiveRoots c hc).2.2.2 (k + 1) (Nat.le_add_left 1 k) hk).symm
    rw [radix2Fft_succ hc hlt, hsq, radix2Fft_eq_recFft k (Nat.le_of_succ_le hk) he,
      radix2Fft_eq_recFft k (Nat.le_of_succ_le hk) ho, recFft]

end

/-- Settles O30: the iterative algorithm is the recursive one, and its butterflies keep a vector reduced at any root. -/
theorem iterativeTransformIsTheTransform : Obligations.IterativeTransformIsTheTransform :=
  fun _ k _ hc hk hv hr =>
    ⟨(radix2Fft_eq_recFft hc k hk hv).trans (recFft_eq_dft hc hr hk hv), fun _ hw => radix2Fft_allReduced hc k hw hv hr⟩

end Sys2Proof.Proofs
end

section
/-! The four-step algorithm: an index of the vector splits into row and column, an index of the transform into a low and a
high part, and the twiddle factors make up the products of the parts (43_fft.md R209, R210). -/

namespace Sys2Proof.Proofs

open Sys2Proof.Machine Sys2Proof.Laws

/-- A sum over the positions of a matrix of `m` rows and `n` columns, row by row. -/
theorem sum_range_mul_eq {F : Type} [AddCommMonoid F] (f : Nat → F) (n : Nat) : ∀ m,
    ∑ j ∈ Finset.range (m * n), f j = ∑ r ∈ Finset.range m, ∑ col ∈ Finset.range n, f (r * n + col)
  | 0 => by simp
  | m + 1 => by rw [Nat.succ_mul, Finset.sum_range_add, sum_range_mul_eq f n m, Finset.sum_range_succ]

/-- The powers of the column's root, the twiddle factor and the row's root make the power of the transform's root: in
`(k1 + rows·k2)·(r·cols + col)` the product `rows·cols·k2·r` is a multiple of the root's order (R210). -/
theorem twiddle_pow {F : Type} [CommMonoid F] {w : F} {rows cols : Nat} (hw : w ^ (rows * cols) = 1) (k1 k2 r col : Nat) :
    ((w ^ cols) ^ k1) ^ r * w ^ (k1 * col) * ((w ^ rows) ^ k2) ^ col = (w ^ (k1 + rows * k2)) ^ (r * cols + col) := by
  have hexp : (k1 + rows * k2) * (r * cols + col) =
      cols * k1 * r + k1 * col + rows * k2 * col + rows * cols * (k2 * r) := by ring
  rw [← pow_mul w _ (r * cols + col), hexp, pow_add _ _ (rows * cols * (k2 * r)), pow_mul w (rows * cols), hw, one_pow,
    mul_one, pow_add, pow_add, pow_mul w (cols * k1), pow_mul w cols, pow_mul w (rows * k2), pow_mul w rows]

/-- Column `col` of the matrix with `2^a` rows and `2^b` columns that holds a vector row by row (R209, step 1). -/
def matrixColumn (a b : Nat) (v : List U256) (col : Nat) : List U256 :=
  (List.range (2 ^ a)).map fun r => v.getD (r * 2 ^ b + col) 0

/-- Row `k1` of the matrix of the twiddled columns (R209, after step 3). -/
def twiddledRow (c : Cfg) (a b : Nat) (v : List U256) (k1 : Nat) : List U256 :=
  (List.range (2 ^ b)).map fun col => (fourStepColumn c a b v col).getD k1 0

@[simp] theorem matrixColumn_length (a b : Nat) (v : List U256) (col : Nat) : (matrixColumn a b v col).length = 2 ^ a := by
  simp [matrixColumn]

@[simp] theorem twiddledRow_length (c : Cfg) (a b : Nat) (v : List U256) (k1 : Nat) :
    (twiddledRow c a b v k1).length = 2 ^ b := by
  simp [twiddledRow]

theorem zipWith_range_getD (f : Nat → U256 → U256) {n i : Nat} {y : List U256} (hn : i < n) (hy : i < y.length) :
    (List.zipWith f (List.range n) y).getD i 0 = f i (y.getD i 0) := by
  simp [List.getD_eq_getElem?_getD, hn, hy]

section
variable {c : Cfg} {a b : Nat} {v : List U256}

theorem fourStepColumn_getD {k1 : Nat} (h1 : k1 < 2 ^ a) (col : Nat) : (fourStepColumn c a b v col).getD k1 0 =
    monPro c ((recFft c a (matrixColumn a b v col)).getD k1 0) (fieldPow c (c.rootAt (a + b)) (k1 * col)) :=
  zipWith_range_getD _ h1 (h1.trans_eq (recFft_length c a _ (matrixColumn_length a b v col)).symm)

/-- Element `k1 + 2^a·k2` is element `k2` of the transform of row `k1` (R209, step 4). -/
theorem fourStep_getD {k1 k2 : Nat} (h1 : k1 < 2 ^ a) (h2 : k2 < 2 ^ b) :
    (fourStep c a b v).getD (k1 + 2 ^ a * k2) 0 = (recFft c b (twiddledRow c a b v k1)).getD k2 0 := by
  have hi : k1 + 2 ^ a * k2 < 2 ^ (a + b) := by
    rw [pow_add]
    calc k1 + 2 ^ a * k2 < 2 ^ a * (k2 + 1) := by rw [Nat.mul_succ]; omega
      _ ≤ 2 ^ a * 2 ^ b := Nat.mul_le_mul_left _ h2
  have hdiv : (k1 + 2 ^ a * k2) / 2 ^ a = k2 := by
    rw [Nat.add_mul_div_left _ _ (by positivity), Nat.div_eq_of_lt h1, zero_add]
  simp only [fourStep]
  rw [map_range_getD _ hi, Nat.add_mul_mod_self_left, Nat.mod_eq_of_lt h1, hdiv, map_range_getD _ h1, fourStepRow,
    List.map_map]
  rfl

/-- Every index of the transform splits into a low part below `2^a` and a high part below `2^b`. -/
theorem split_index {i : Nat} (hi : i < 2 ^ (a + b)) : ∃ k1 k2, k1 < 2 ^ a ∧ k2 < 2 ^ b ∧ i = k1 + 2 ^ a * k2 :=
  ⟨i % 2 ^ a, i / 2 ^ a, Nat.mod_lt _ (by positivity), Nat.div_lt_of_lt_mul (by rwa [← pow_add]), (Nat.mod_add_div _ _).symm⟩

variable (hc : c.WellFormed)
include hc

/-- The root tower: `ROOT[a]` is `ROOT[a+b]` to the power `2^b`. -/
theorem denote_root_tower (a : Nat) : ∀ b, a + b ≤ c.maxLog →
    c.denote (c.rootAt (a + b)) ^ 2 ^ b = c.denote (c.rootAt a)
  | 0, _ => by rw [pow_zero, pow_one, add_zero]
  | b + 1, h => by rw [pow_succ', pow_mul, ← add_assoc, denote_root_sq hc (show a + b < c.maxLog from h),
    denote_root_tower a b (Nat.le_of_succ_le h)]

variable (hr : allReduced c v = true)
include hr

theorem matrixColumn_allReduced (col : Nat) : allReduced c (matrixColumn a b v col) = true := by
  rw [allReduced_iff]
  intro x hx
  obtain ⟨r, -, rfl⟩ := List.mem_map.1 hx
  exact allReduced_getD hc hr _

theorem fourStepColumn_getD_lt {k1 : Nat} (h1 : k1 < 2 ^ a) (col : Nat) :
    ((fourStepColumn c a b v col).getD k1 0).toNat < c.n.toNat := by
  rw [fourStepColumn_getD h1]
  exact monPro_lt hc (allReduced_getD hc (recFft_allReduced hc a _ (matrixColumn_allReduced hc hr col)) k1) _

theorem twiddledRow_allReduced {k1 : Nat} (h1 : k1 < 2 ^ a) : allReduced c (twiddledRow c a b v k1) = true := by
  rw [allReduced_iff]
  intro x hx
  obtain ⟨col, -, rfl⟩ := List.mem_map.1 hx
  exact fourStepColumn_getD_lt hc hr h1 col

theorem fourStep_allReduced : allReduced c (fourStep c a b v) = true := by
  rw [allReduced_iff]
  intro x hx
  obtain ⟨i, hi, rfl⟩ := List.mem_iff_getElem.1 hx
  obtain ⟨k1, k2, h1, h2, rfl⟩ := split_index (hi.trans_eq (fourStep_length c a b v))
  rw [← List.getD_eq_getElem _ 0 hi, fourStep_getD h1 h2]
  exact allReduced_getD hc (recFft_allReduced hc b _ (twiddledRow_allReduced hc hr h1)) k2

variable (hk : a + b ≤ c.maxLog)
include hk

/-- A twiddled column element: the column's value at a power of its root, times the twiddle factor. -/
theorem denote_fourStepColumn {k1 : Nat} (h1 : k1 < 2 ^ a) (col : Nat) :
    c.denote ((fourStepColumn c a b v col).getD k1 0) =
      (∑ r ∈ Finset.range (2 ^ a), c.denote (v.getD (r * 2 ^ b + col) 0) * (c.denote (c.rootAt a) ^ k1) ^ r) *
        c.denote (c.rootAt (a + b)) ^ (k1 * col) := by
  have hcol := matrixColumn_allReduced hc hr (a := a) (b := b) col
  have hlen := matrixColumn_length a b v col
  rw [fourStepColumn_getD h1, denote_monPro hc (allReduced_getD hc (recFft_allReduced hc a _ hcol) k1),
    denote_fieldPow hc (hc.root_lt _ hk), denote_recFft hc a _ (Nat.le_of_add_right_le hk) hlen hcol k1 h1, evalAt_eq_sum, hlen]
  congr 1
  refine Finset.sum_congr rfl fun r hrow => ?_
  rw [matrixColumn, map_range_getD _ (Finset.mem_range.1 hrow)]

variable (hv : v.length = 2 ^ (a + b))
include hv

theorem denote_fourStep {k1 k2 : Nat} (h1 : k1 < 2 ^ a) (h2 : k2 < 2 ^ b) :
    c.denote ((fourStep c a b v).getD (k1 + 2 ^ a * k2) 0) =
      evalAt c (c.denote (c.rootAt (a + b)) ^ (k1 + 2 ^ a * k2)) v := by
  have hrow := twiddledRow_length c a b v k1
  have hroot_a := denote_root_tower hc a b hk
  have hroot_b : c.denote (c.rootAt (a + b)) ^ 2 ^ a = c.denote (c.rootAt b) := by
    rw [add_comm a b]
    exact denote_root_tower hc b a (by omega)
  have hunit : c.denote (c.rootAt (a + b)) ^ (2 ^ a * 2 ^ b) = 1 := by
    rw [← pow_add]
    exact denote_root_pow hc (a + b) hk
  rw [fourStep_getD h1 h2,
    denote_recFft hc b _ (Nat.le_of_add_left_le hk) hrow (twiddledRow_allReduced hc hr h1) k2 h2, evalAt_eq_sum, hrow,
    evalAt_eq_sum, hv, pow_add, sum_range_mul_eq, Finset.sum_comm]
  refine Finset.sum_congr rfl fun col hcol => ?_
  rw [twiddledRow, map_range_getD _ (Finset.mem_range.1 hcol), denote_fourStepColumn hc hr hk h1, Finset.sum_mul,
    Finset.sum_mul]
  refine Finset.sum_congr rfl fun r _ => ?_
  rw [← twiddle_pow hunit, hroot_a, hroot_b]
  ring

/-- R210: the four-step algorithm computes the transform, whatever the factoring. -/
theorem fourStep_eq_dft : fourStep c a b v = dft c (a + b) v := by
  refine eq_dft_of_denote hc hr hk (fourStep_length c a b v) (fourStep_allReduced hc hr) fun i hi => ?_
  obtain ⟨k1, k2, h1, h2, rfl⟩ := split_index hi
  exact denote_fourStep hc hr hk hv h1 h2

end

/-- Settles O31: both index splittings, and the products of their parts as powers of the root. -/
theorem fourStepTransformIsTheTransform : Obligations.FourStepTransformIsTheTransform :=
  fun _ _ _ _ hc hk hv hr => fourStep_eq_dft hc hr hk hv

end Sys2Proof.Proofs
end

section
/-! The transform commands: which of the checks of 43_fft.md R202 fails first, and what a command whose checks pass stores
(R200, R205, R208, R211, R213). -/

namespace Sys2Proof.Proofs

open Sys2Proof.Machine Sys2Proof.Laws

/-! The checks (R202; 20_memory.md R72) -/

theorem boundsTrap_of_fits {s : State} {addr n : Nat} (h : addr + n ≤ s.cfg.vmSize) : boundsTrap s addr n = none := by
  simp [boundsTrap, State.vmFits, h]

theorem boundsTrap_of_not_fits {s : State} {addr n : Nat} (h : s.cfg.vmSize < addr + n) :
    boundsTrap s addr n = some (trap .vmBounds addr n 0) := by
  simp [boundsTrap, State.vmFits, h]

theorem shapeTrap_of_ne {a b len : Nat} (h : 2 ^ a * 2 ^ b ≠ len) :
    shapeTrap (some (a, b)) len = some (trap .shape (2 ^ a) (2 ^ b) len) := if_neg h

section
variable {s : State} {src dst len : Word}

theorem transformTrap_of_not_pow2 (h : ∀ k, len.toNat ≠ 2 ^ k) (op : Nat) (shape : Option (Nat × Nat)) :
    transformTrap s op src dst len shape = some (trap .nPow2 len.toNat op 0) := by
  have hpow : ¬ isPow2 len.toNat = true := fun hp => h _ (eq_two_pow_log2 hp)
  simp [transformTrap, hpow]

variable {k : Nat} (hlen : len.toNat = 2 ^ k)
include hlen

theorem transformTrap_of_above_maxLog (hk : s.cfg.maxLog < k) (op : Nat) (shape : Option (Nat × Nat)) :
    transformTrap s op src dst len shape = some (trap .rootOrder len.toNat 0 0) := by
  simp [transformTrap, hlen, isPow2_pow, Nat.log2_two_pow, hk]

theorem shapeTrap_of_factoring {a b : Nat} (h : a + b = k) : shapeTrap (some (a, b)) len.toNat = none :=
  if_pos (by rw [hlen, ← pow_add, h])

variable (hk : k ≤ s.cfg.maxLog)
include hk

/-- A length the table has a root for leaves the shape and the two ranges to check, in this order. -/
theorem transformTrap_of_length (op : Nat) (shape : Option (Nat × Nat)) : transformTrap s op src dst len shape =
    (shapeTrap shape len.toNat).or ((boundsTrap s src.toNat len.toNat).or (boundsTrap s dst.toNat len.toNat)) := by
  simp [transformTrap, hlen, isPow2_pow, Nat.log2_two_pow, Nat.not_lt.2 hk]

theorem transformTrap_of_wrong_shape (op : Nat) {a b : Nat} (h : 2 ^ a * 2 ^ b ≠ len.toNat) :
    transformTrap s op src dst len (some (a, b)) = some (trap .shape (2 ^ a) (2 ^ b) len.toNat) := by
  rw [transformTrap_of_length hlen hk, shapeTrap_of_ne h, Option.some_or]

section
variable {shape : Option (Nat × Nat)} (hshape : shapeTrap shape len.toNat = none)
include hshape

theorem transformTrap_of_source_outside (op : Nat) (hsrc : s.cfg.vmSize < src.toNat + 2 ^ k) :
    transformTrap s op src dst len shape = some (trap .vmBounds src.toNat len.toNat 0) := by
  rw [← hlen] at hsrc
  rw [transformTrap_of_length hlen hk, hshape, Option.none_or, boundsTrap_of_not_fits hsrc, Option.some_or]

variable (hsrc : src.toNat + 2 ^ k ≤ s.cfg.vmSize)
include hsrc

theorem transformTrap_of_destination_outside (op : Nat) (hdst : s.cfg.vmSize < dst.toNat + 2 ^ k) :
    transformTrap s op src dst len shape = some (trap .vmBounds dst.toNat len.toNat 0) := by
  rw [← hlen] at hsrc hdst
  rw [transformTrap_of_length hlen hk, hshape, Option.none_or, boundsTrap_of_fits hsrc, Option.none_or,
    boundsTrap_of_not_fits hdst]

theorem transformTrap_of_fits (op : Nat) (hdst : dst.toNat + 2 ^ k ≤ s.cfg.vmSize) :
    transformTrap s op src dst len shape = none := by
  rw [← hlen] at hsrc hdst
  rw [transformTrap_of_length hlen hk, hshape, Option.none_or, boundsTrap_of_fits hsrc, Option.none_or,
    boundsTrap_of_fits hdst]

end

end

/-! The faults -/

theorem settle_guarded_of_trap {s e : State} {o : Option Trap} {t : Trap} (h : o = some t) :
    settle s (guarded o e) = .next (raise t s) := by
  rw [h]
  rfl

section
variable {s : State} {src dst len : Word}

/-- The three commands without a shape fault together, each with its own opcode in the check of the length. -/
theorem exec_transforms_of_trap {op : Nat → Trap} (h : ∀ o, transformTrap s o src dst len none = some (op o)) (fw : RegIdx) :
    exec (.fftrec src dst len) s = .next (raise (op 0x40) s) ∧
    exec (.fftr2 fw src dst len) s = .next (raise (op 0x41) s) ∧
    exec (.ifft src dst len) s = .next (raise (op 0x43) s) :=
  ⟨settle_guarded_of_trap (h 0x40), settle_guarded_of_trap (h 0x41), settle_guarded_of_trap (h 0x43)⟩

theorem exec_fft4_of_trap {la lb : Byte} {t : Trap}
    (h : transformTrap s 0x42 src dst len (some (la.toNat, lb.toNat)) = some t) :
    exec (.fft4 la lb src dst len) s = .next (raise t s) := settle_guarded_of_trap h

end

/-- Settles O46: the first check that fails gives the fault. -/
theorem transformFaults : Obligations.TransformFaults := by
  intro s src dst len fw la lb
  refine ⟨fun h => ?_, fun k hlen hk => ?_, fun k hlen hk hshape => ?_, fun k hlen hk hsrc => ?_,
    fun k hlen hk hsrc hdst => ?_⟩
  · exact ⟨exec_transforms_of_trap (fun op => transformTrap_of_not_pow2 h op none) fw,
      exec_fft4_of_trap (transformTrap_of_not_pow2 h _ _)⟩
  · exact ⟨exec_transforms_of_trap (fun op => transformTrap_of_above_maxLog hlen hk op none) fw,
      exec_fft4_of_trap (transformTrap_of_above_maxLog hlen hk _ _)⟩
  · exact exec_fft4_of_trap (transformTrap_of_wrong_shape hlen hk _ hshape)
  · exact ⟨exec_transforms_of_trap (fun op => transformTrap_of_source_outside hlen hk rfl op hsrc) fw,
      fun h => exec_fft4_of_trap (transformTrap_of_source_outside hlen hk (shapeTrap_of_factoring hlen h) _ hsrc)⟩
  · exact ⟨exec_transforms_of_trap (fun op => transformTrap_of_destination_outside hlen hk rfl hsrc op hdst) fw,
      fun h => exec_fft4_of_trap (transformTrap_of_destination_outside hlen hk (shapeTrap_of_factoring hlen h) hsrc _ hdst)⟩

/-! The results -/

/-- A state whose transform of `2^k` elements has both ranges inside `VM` and a reduced source vector. -/
structure TransformReady (s : State) (src dst len : Word) (k : Nat) : Prop where
  length : len.toNat = 2 ^ k
  order : k ≤ s.cfg.maxLog
  source : src.toNat + 2 ^ k ≤ s.cfg.vmSize
  destination : dst.toNat + 2 ^ k ≤ s.cfg.vmSize
  reduced : allReduced s.cfg (s.memRead src.toNat (2 ^ k)) = true

section
variable {s : State} {src dst len : Word} {k : Nat} (h : TransformReady s src dst len k)
include h

/-- With reduced operands the checks pass and the computed vector is stored. -/
theorem settle_transform (op : Nat) {shape : Option (Nat × Nat)} (hshape : shapeTrap shape len.toNat = none) {extra : Bool}
    (hextra : extra = true) {fn : List U256 → List U256} {y : List U256} (hy : fn (s.memRead src.toNat (2 ^ k)) = y) :
    settle s (guarded (transformTrap s op src dst len shape) (transformEffect s src dst len extra fn)) =
      .next (complete (s.memWrite dst.toNat y).setRinit) := by
  obtain ⟨hlen, hk, hsrc, hdst, hr⟩ := h
  rw [transformTrap_of_fits hlen hk hshape hsrc op hdst, guarded_none, settle_ok, transformEffect, hlen, hextra, hr,
    Bool.and_self, putVec_true, hy]

theorem TransformReady.log2_length : len.toNat.log2 = k := by rw [h.length, Nat.log2_two_pow]

theorem TransformReady.recFft_source (hc : s.cfg.WellFormed) :
    recFft s.cfg k (s.memRead src.toNat (2 ^ k)) = dft s.cfg k (s.memRead src.toNat (2 ^ k)) :=
  recFft_eq_dft hc h.reduced h.order (memRead_length s _ _)

/-- At the table's root, or with one element, the iterative algorithm gives the transform. -/
theorem TransformReady.radix2Fft_source (hc : s.cfg.WellFormed) {w : U256} (hw : w = s.cfg.rootAt k ∨ k = 0) :
    radix2Fft s.cfg k w (s.memRead src.toNat (2 ^ k)) = dft s.cfg k (s.memRead src.toNat (2 ^ k)) := by
  rw [← h.recFft_source hc]
  rcases hw with rfl | rfl
  · exact radix2Fft_eq_recFft hc k h.order (memRead_length s _ _)
  · exact bitReversePermute_zero (memRead_length s _ _)

theorem exec_fftrec {y : List U256} (hy : recFft s.cfg k (s.memRead src.toNat (2 ^ k)) = y) :
    exec (.fftrec src dst len) s = .next (complete (s.memWrite dst.toNat y).setRinit) :=
  settle_transform h 0x40 rfl rfl (by rw [h.log2_length, hy])

/-- The root register is an element operand unless the length is 1 (R208). -/
theorem exec_fftr2 {fw : RegIdx} (hw : (s.getF fw).toNat < s.cfg.n.toNat ∨ k = 0) {y : List U256}
    (hy : radix2Fft s.cfg k (s.getF fw) (s.memRead src.toNat (2 ^ k)) = y) :
    exec (.fftr2 fw src dst len) s = .next (complete (s.memWrite dst.toNat y).setRinit) := by
  refine settle_transform h 0x41 rfl ?_ (by rw [h.log2_length, hy])
  rcases hw with hw | rfl
  · rw [(isReduced_iff _ _).2 hw, Bool.or_true]
  · have hone : len = 1 := BitVec.eq_of_toNat_eq h.length
    rw [hone, beq_self_eq_true, Bool.true_or]

theorem exec_fft4 {la lb : Byte} (hlog : la.toNat + lb.toNat = k) {y : List U256}
    (hy : fourStep s.cfg la.toNat lb.toNat (s.memRead src.toNat (2 ^ k)) = y) :
    exec (.fft4 la lb src dst len) s = .next (complete (s.memWrite dst.toNat y).setRinit) :=
  settle_transform h 0x42 (shapeTrap_of_factoring h.length hlog) rfl hy

theorem exec_ifft {y : List U256} (hy : invFft s.cfg k (s.memRead src.toNat (2 ^ k)) = y) :
    exec (.ifft src dst len) s = .next (complete (s.memWrite dst.toNat y).setRinit) :=
  settle_transform h 0x43 rfl rfl (by rw [h.log2_length, hy])

end

/-- Settles O45: the source is read whole before the destination is written, and each algorithm gives its transform. -/
theorem transformCommands : Obligations.TransformCommands := by
  intro s src dst len k hc hlen hk hsrc hdst hr
  have h : TransformReady s src dst len k := ⟨hlen, hk, hsrc, hdst, hr⟩
  have hv := memRead_length s src.toNat (2 ^ k)
  refine ⟨exec_fftrec h (h.recFft_source hc), fun fw _ hw => ?_, fun fw _ hw => exec_fftr2 h (.inl hw) rfl,
    fun la lb _ _ hlog => ?_, invFft s.cfg k _, exec_ifft h rfl, invFft_length _ _ _, invFft_allReduced hc k _,
    dft_invFft hc hk hv hr⟩
  · exact exec_fftr2 h (hw.imp_left fun hroot => hroot ▸ hc.root_lt k hk) (h.radix2Fft_source hc hw)
  · subst hlog
    exact exec_fft4 h rfl (fourStep_eq_dft hc hr hk hv)

end Sys2Proof.Proofs
end

section
/-! `JNEW` and `JFREE`, `JFORK` and its leaves (44_job_merge.md R231, R233 to R235, R248): which check fails first, and what a
command whose checks pass leaves in the table. -/

namespace Sys2Proof.Proofs

open Sys2Proof.Machine Sys2Proof.Laws

/-! Making and freeing (R233, R248) -/

section
variable {s : State} {js : JobIdx} {src len : Word}

theorem jnewTrap_of_occupied (h : (s.getJob js).isSome = true) :
    jnewTrap s js src len = some (trap .jobState js.toNat 1 0) := if_pos h

variable (hempty : s.getJob js = none)
include hempty

theorem jnewTrap_of_not_pow2 (h : ∀ k, len.toNat ≠ 2 ^ k) :
    jnewTrap s js src len = some (trap .nPow2 len.toNat 0x50 0) := by
  have hpow : ¬ isPow2 len.toNat = true := fun hp => h _ (eq_two_pow_log2 hp)
  simp [jnewTrap, hempty, hpow]

variable {k : Nat} (hlen : len.toNat = 2 ^ k)
include hlen

theorem jnewTrap_of_too_long (h : s.cfg.jMaxLen < 2 ^ k) :
    jnewTrap s js src len = some (trap .capacity len.toNat s.cfg.jMaxLen 0) := by
  simp [jnewTrap, hempty, hlen, isPow2_pow, h]

/-- A free slot and a length the table takes leave the source's range to check. -/
theorem jnewTrap_of_length (h : 2 ^ k ≤ s.cfg.jMaxLen) : jnewTrap s js src len = boundsTrap s src.toNat len.toNat := by
  simp [jnewTrap, hempty, hlen, isPow2_pow, h]

end

/-- Settles O48: the first check that fails gives the fault, and a reduced source is stored as it is. -/
theorem jobsAreMadeAndFreed : Obligations.JobsAreMadeAndFreed := by
  intro s js src len jobId _
  refine ⟨rfl, fun hfull => settle_guarded_of_trap (jnewTrap_of_occupied hfull),
    fun hempty hpow => settle_guarded_of_trap (jnewTrap_of_not_pow2 hempty hpow), fun k hempty hlen => ?_⟩
  refine ⟨fun hlong => settle_guarded_of_trap (jnewTrap_of_too_long hempty hlen hlong), fun hfit hout => ?_,
    fun hfit hin hr => ?_⟩
  · have htrap := jnewTrap_of_length (src := src) hempty hlen hfit
    exact settle_guarded_of_trap (htrap.trans (boundsTrap_of_not_fits (by rwa [hlen])))
  · have htrap := jnewTrap_of_length (src := src) hempty hlen hfit
    rw [boundsTrap_of_fits (by rwa [hlen])] at htrap
    rw [← hlen] at hr ⊢
    rw [show exec (.jnew js src len jobId) s = settle s (guarded (jnewTrap s js src len) (s.withJobWork (s.jobWork.put
      (allReduced s.cfg (s.memRead src.toNat len.toNat)) js.toNat ⟨.job, jobId, 0, false, s.memRead src.toNat len.toNat⟩)))
      from rfl, htrap, hr]
    rfl

/-! Forking (R234, R235) -/

@[simp] theorem jobWork_slot (s : State) (j : Nat) : s.jobWork.slot j = s.jt[j]?.getD none := rfl

theorem getJob_eq (s : State) (j : JobIdx) : s.getJob j = s.jt[j.toNat]?.getD none := rfl

@[simp] theorem forkLeaf_length (e : JobEntry) (t g i : Nat) : (forkLeaf e t g i).data.length = g := by simp [forkLeaf]

theorem putAll_jt_getElem (reduced : Bool) (j : Nat) : ∀ (es : List JobEntry) (i : Nat) (w : JobWork),
    j < i ∨ i + es.length ≤ j → (JobWork.putAll reduced i es w).jt[j]? = w.jt[j]?
  | [], _, _, _ => rfl
  | e :: es, i, w, h => by
    rw [List.length_cons] at h
    rw [JobWork.putAll, putAll_jt_getElem reduced j es (i + 1) _ (by omega)]
    simp [JobWork.put, show i ≠ j by omega]

/-- The work of writing entries whose elements are all of one length `g`: the free values of entry `i` are counted from
`draws + i * g`. -/
theorem putAll_spec (reduced : Bool) (g : Nat) : ∀ (es : List JobEntry) (i : Nat) (w : JobWork),
    (∀ e ∈ es, e.data.length = g) → i + es.length ≤ 64 →
    (∀ m (hm : m < es.length), (JobWork.putAll reduced i es w).jt[i + m]? =
      some (some { es[m] with data := (openVec reduced es[m].data (if reduced then w.draws else w.draws + m * g)).1 })) ∧
    (JobWork.putAll reduced i es w).draws = (if reduced then w.draws else w.draws + es.length * g) ∧
    (JobWork.putAll reduced i es w).rinit = w.rinit
  | [], _, w, _, _ => ⟨fun _ hm => absurd hm (Nat.not_lt_zero _), by simp [JobWork.putAll], rfl⟩
  | e :: es, i, w, hg, hi => by
    rw [List.length_cons] at hi
    have hlen : e.data.length = g := hg e (by simp)
    obtain ⟨hslot, hdraws, hrinit⟩ := putAll_spec reduced g es (i + 1) (w.put reduced i e) (fun x hx => hg x (by simp [hx]))
      (by omega)
    have hput : (w.put reduced i e).draws = if reduced then w.draws else w.draws + g := by
      cases reduced <;> simp [JobWork.put, openVec, hlen]
    refine ⟨fun m hm => ?_, ?_, hrinit⟩
    · cases m with
      | zero =>
        rw [JobWork.putAll, putAll_jt_getElem reduced _ _ _ _ (by omega)]
        simp [JobWork.put, show i < 64 by omega]
      | succ m =>
        have h := hslot m (by simpa using hm)
        rw [show i + (m + 1) = i + 1 + m by omega, JobWork.putAll, h, hput, List.getElem_cons_succ]
        cases reduced
        · simp only [Bool.false_eq_true, if_false]
          rw [show w.draws + g + m * g = w.draws + (m + 1) * g by ring]
        · rfl
    · rw [JobWork.putAll, hdraws, hput]
      cases reduced
      · simp only [Bool.false_eq_true, if_false, List.length_cons]
        ring
      · rfl

theorem exec_jfork_of_no_job {s : State} {js : JobIdx} (h : ∀ e, s.getJob js = some e → e.kind = .mergeJob) (jd : JobIdx)
    (target : Word) : exec (.jfork jd js target) s = .next (raise (trap .jobState js.toNat 2 0) s) := by
  simp only [exec, execJfork]
  cases he : s.getJob js with
  | none => rfl
  | some e => simp [h e he]

theorem exec_jfork_of_job {s : State} {js : JobIdx} {e : JobEntry} (he : s.getJob js = some e) (hkind : e.kind = .job)
    (jd : JobIdx) (target : Word) : exec (.jfork jd js target) s = settle s (guarded (jforkTrap s jd e target.toNat)
      (s.withJobWork (JobWork.putAll (allReduced s.cfg e.data) jd.toNat
        ((List.range (2 ^ (e.data.length.log2 - target.toNat.log2))).map
          (forkLeaf e (e.data.length.log2 - target.toNat.log2) target.toNat)) s.jobWork))) := by
  simp [exec, execJfork, he, hkind]

section
variable {s : State} {jd : JobIdx} {e : JobEntry} {k : Nat} (hk : e.data.length = 2 ^ k)
include hk

theorem jforkTrap_of_bad_size {n : Nat} (h : ∀ g, n = 2 ^ g → k < g) :
    jforkTrap s jd e n = some (trap .forkSize n (2 ^ k) 0) := by
  have hbad : (!isPow2 n || decide (2 ^ k < n)) = true := by
    by_cases hp : isPow2 n = true
    · obtain ⟨g, rfl⟩ := (isPow2_iff n).1 hp
      simp [Nat.pow_lt_pow_right one_lt_two (h g rfl)]
    · simp [hp]
  simp only [jforkTrap, hk, hbad, if_true]

variable {g t : Nat} (ht : k = g + t)
include ht

/-- A leaf size that divides the vector into `2^t` leaves leaves the slots and the node numbers to check. -/
theorem jforkTrap_of_size : jforkTrap s jd e (2 ^ g) =
    if 64 < jd.toNat + 2 ^ t then some (trap .capacity (jd.toNat + 2 ^ t) 64 1)
    else if 2 ^ 32 ≤ (e.pathId.toNat + 1) * 2 ^ t + 2 ^ t - 2 then some (trap .forkSize (2 ^ g) (2 ^ k) 1)
    else (firstOccupied s jd.toNat (2 ^ t)).map fun j => trap .jobState j 1 0 := by
  have hle : ¬ 2 ^ k < 2 ^ g := Nat.not_lt.2 (Nat.pow_le_pow_right two_pos (by omega))
  have hlog : (2 ^ k).log2 - (2 ^ g).log2 = t := by rw [Nat.log2_two_pow, Nat.log2_two_pow]; omega
  simp only [jforkTrap, hk, hlog, isPow2_pow, hle, Bool.not_true, decide_false, Bool.or_self, Bool.false_eq_true, if_false]
  cases firstOccupied s jd.toNat (2 ^ t) <;> rfl

end

theorem firstOccupied_of_first {s : State} {jd count i : Nat} (hi : i < count)
    (hfull : (s.jt[jd + i]?.getD none).isSome = true) (hfree : ∀ i', i' < i → s.jt[jd + i']? = some none) :
    firstOccupied s jd count = some (jd + i) := by
  rw [firstOccupied, List.find?_map, List.find?_range_eq_some.2 ⟨hfull, List.mem_range.2 hi, fun i' hi' => ?_⟩]
  · rfl
  · simp [hfree i' hi']

theorem firstOccupied_of_free {s : State} {jd count : Nat} (hfree : ∀ i, i < count → s.jt[jd + i]? = some none) :
    firstOccupied s jd count = none := by
  simp only [firstOccupied, List.find?_eq_none, List.mem_map, List.mem_range, forall_exists_index, and_imp]
  rintro _ i hi rfl
  simp [hfree i hi]

/-- What `JFORK` needs to succeed: a Job whose vector splits into `2^t` leaves of size `2^g`, slots for them, all free, and node
numbers for them. -/
structure ForkReady (s : State) (jd js : JobIdx) (e : JobEntry) (k g t : Nat) : Prop where
  entry : s.getJob js = some e
  kind : e.kind = .job
  length : e.data.length = 2 ^ k
  sizes : k = g + t
  slots : jd.toNat + 2 ^ t ≤ 64
  numbers : (e.pathId.toNat + 1) * 2 ^ t + 2 ^ t - 2 < 2 ^ 32
  free : ∀ i, i < 2 ^ t → s.jt[jd.toNat + i]? = some none

/-- The leaves are written; free values, where there are any, are counted leaf by leaf. -/
theorem exec_jfork_of_ready {s : State} {jd js : JobIdx} {e : JobEntry} {k g t : Nat} (h : ForkReady s jd js e k g t)
    {target : Word} (htarget : target.toNat = 2 ^ g) {reduced : Bool} (hr : allReduced s.cfg e.data = reduced) :
    ∃ u, exec (.jfork jd js target) s =
        .next { s with
          jt := u
          draws := if reduced then s.draws else s.draws + 2 ^ k
          cseq := s.cseq + 1
          busy := false } ∧
      (∀ i, i < 2 ^ t → u[jd.toNat + i]? = some (some { forkLeaf e t (2 ^ g) i with
        data := (openVec reduced (forkLeaf e t (2 ^ g) i).data (if reduced then s.draws else s.draws + i * 2 ^ g)).1 })) ∧
      ∀ j, j < jd.toNat ∨ jd.toNat + 2 ^ t ≤ j → u[j]? = s.jt[j]? := by
  obtain ⟨he, hkind, hk, ht, hslots, hnumbers, hfree⟩ := h
  have htrap : jforkTrap s jd e target.toNat = none := by
    rw [htarget, jforkTrap_of_size hk ht, if_neg (by omega), if_neg (by omega), firstOccupied_of_free hfree, Option.map_none]
  have hlog : e.data.length.log2 - target.toNat.log2 = t := by
    rw [hk, htarget, Nat.log2_two_pow, Nat.log2_two_pow]
    omega
  obtain ⟨hslot, hdraws, hrinit⟩ := putAll_spec reduced (2 ^ g) ((List.range (2 ^ t)).map (forkLeaf e t (2 ^ g))) jd.toNat
    s.jobWork (by simp) (by simpa using hslots)
  rw [List.length_map, List.length_range, ← pow_add, add_comm t g, ← ht] at hdraws
  refine ⟨(JobWork.putAll reduced jd.toNat ((List.range (2 ^ t)).map (forkLeaf e t (2 ^ g))) s.jobWork).jt, ?_,
    fun i hi => ?_, fun j hj => ?_⟩
  · rw [exec_jfork_of_job he hkind, htrap, hlog, htarget, hr, guarded_none, settle_ok, complete, State.withJobWork, hdraws,
      hrinit]
    rfl
  · have hlt : i < ((List.range (2 ^ t)).map (forkLeaf e t (2 ^ g))).length := by simpa using hi
    have hget : ((List.range (2 ^ t)).map (forkLeaf e t (2 ^ g)))[i] = forkLeaf e t (2 ^ g) i := by simp
    have hi := hslot i hlt
    rwa [hget] at hi
  · exact putAll_jt_getElem _ _ _ _ _ (by simpa using hj)

/-- Settles O49: the first check that fails gives the fault, and a reduced vector's leaves are stored as they are. -/
theorem jforkWritesTheLeaves : Obligations.JforkWritesTheLeaves := by
  intro s jd js target _ _
  refine ⟨fun h => exec_jfork_of_no_job h jd target, fun e k he hkind hk => ⟨fun hbad => ?_, fun g t htarget ht => ?_⟩⟩
  · rw [exec_jfork_of_job he hkind]
    exact settle_guarded_of_trap (jforkTrap_of_bad_size hk hbad)
  · have htrap := jforkTrap_of_size (s := s) (jd := jd) hk ht
    rw [← htarget] at htrap
    refine ⟨fun hfar => ?_, fun hslots hlarge => ?_, fun i hslots hsmall hi hfull hfree => ?_,
      fun hslots hsmall hfree hr => ?_⟩
    · rw [exec_jfork_of_job he hkind]
      exact settle_guarded_of_trap (htrap.trans (if_pos hfar))
    · rw [exec_jfork_of_job he hkind]
      rw [if_neg (by omega), if_pos hlarge] at htrap
      exact settle_guarded_of_trap htrap
    · rw [exec_jfork_of_job he hkind]
      rw [if_neg (by omega), if_neg (by omega), firstOccupied_of_first hi hfull hfree] at htrap
      exact settle_guarded_of_trap htrap
    · exact exec_jfork_of_ready ⟨he, hkind, hk, ht, hslots, hsmall, hfree⟩ htarget hr

end Sys2Proof.Proofs
end

section
/-! `JFFT` and `JMERGE` (44_job_merge.md R236, R237, R239 to R241): the tags of a node, the data of a merge element by element,
and what one fork undoes. -/

namespace Sys2Proof.Proofs

open Sys2Proof.Machine Sys2Proof.Laws

/-! The tags of a node (R231, R236) -/

theorem parentTags_fst (q : Word) : (parentTags q).1 = if q = 0 then 0#32 else (q - 1) >>> 1 := by
  unfold parentTags
  split_ifs with hq
  · rfl
  · apply BitVec.eq_of_toNat_eq
    have hpos : q.toNat ≠ 0 := fun h => hq (BitVec.eq_of_toNat_eq h)
    have hsub : (q - 1).toNat = q.toNat - 1 := by bv_omega
    have hlt := q.isLt
    simp only [word, BitVec.toNat_ofNat, BitVec.toNat_ushiftRight, hsub, Nat.shiftRight_eq_div_pow]
    omega

theorem parentTags_snd (q : Word) : (parentTags q).2 = (decide (q ≠ 0) && (q - 1).getLsbD 0) := by
  unfold parentTags
  split_ifs with hq
  · simp [hq]
  · have hpos : q.toNat ≠ 0 := fun h => hq (BitVec.eq_of_toNat_eq h)
    have hsub : (q - 1).toNat = q.toNat - 1 := by bv_omega
    rw [BitVec.getLsbD, hsub, Nat.testBit_zero, decide_eq_true hq, Bool.true_and]

/-- The tags of a node other than the root, from its number. -/
theorem parentTags_succ {n : Nat} (h : n + 1 < 2 ^ 32) : parentTags (word (n + 1)) = (word (n / 2), decide (n % 2 = 1)) := by
  have hval : (word (n + 1)).toNat = n + 1 := Nat.mod_eq_of_lt h
  have hne : word (n + 1) ≠ 0 := fun h0 => by simp [h0] at hval
  rw [parentTags, if_neg hne, hval, Nat.add_sub_cancel]

/-! The transform of a Job (R236, R237) -/

theorem exec_jfft_of_no_job {s : State} {js : JobIdx} (h : ∀ e, s.getJob js = some e → e.kind = .mergeJob) :
    exec (.jfft js) s = .next (raise (trap .jobState js.toNat 2 0) s) := by
  rw [getJob_eq] at h
  simp only [exec, execJfft, fftSlot, jobWork_slot]
  cases he : s.jt[js.toNat]?.getD none with
  | none => rfl
  | some e => simp [h e he, Except.map]

theorem rootTrap_of_pow {c : Cfg} {k : Nat} (h : k ≤ c.maxLog) : rootTrap c (2 ^ k) = none := by
  simp [rootTrap, Nat.log2_two_pow, h]

theorem rootTrap_of_pow_above {c : Cfg} {k : Nat} (h : c.maxLog < k) :
    rootTrap c (2 ^ k) = some (trap .rootOrder (2 ^ k) 0 0) := by
  simp [rootTrap, Nat.log2_two_pow, h]

theorem fftSlot_of_job {c : Cfg} {w : JobWork} {j : Nat} {e : JobEntry} (he : w.slot j = some e) (hkind : e.kind = .job)
    (reduced : Bool) : fftSlot c reduced j w =
      (rootTrap c e.data.length).elim (.ok (w.put reduced j (jobTransform c e)).useRoots) .error := by
  simp only [fftSlot, he, hkind, ne_eq, not_true_eq_false, if_false]
  cases rootTrap c e.data.length <;> rfl

theorem slotReduced_of_entry {s : State} {j : JobIdx} {e : JobEntry} (he : s.getJob j = some e) :
    slotReduced s j = allReduced s.cfg e.data := by
  simp [slotReduced, he]

/-- `JFFT` on a Job settles the slot's transform. -/
theorem exec_jfft_of_job {s : State} {js : JobIdx} {e : JobEntry} (he : s.getJob js = some e) (hkind : e.kind = .job) :
    exec (.jfft js) s = settle s (guarded (rootTrap s.cfg e.data.length)
      (s.withJobWork (s.jobWork.put (allReduced s.cfg e.data) js.toNat (jobTransform s.cfg e)).useRoots)) := by
  rw [show exec (.jfft js) s = settle s ((fftSlot s.cfg (slotReduced s js) js.toNat s.jobWork).map s.withJobWork) from rfl,
    fftSlot_of_job (w := s.jobWork) he hkind, slotReduced_of_entry he]
  cases rootTrap s.cfg e.data.length <;> rfl

theorem jobTransform_data {c : Cfg} {e : JobEntry} {k : Nat} (hk : e.data.length = 2 ^ k) :
    (jobTransform c e).data = recFft c k e.data := by
  simp only [jobTransform, hk, Nat.log2_two_pow]

/-- Settles O50: the transform of a reduced vector is the defining sum, and the tags are the parent's. -/
theorem jfftConsumesAJob : Obligations.JfftConsumesAJob := by
  intro s js _
  refine ⟨exec_jfft_of_no_job, fun e k he hkind hk => ⟨fun hlong => ?_, fun hc hle hr => ?_⟩⟩
  · rw [exec_jfft_of_job he hkind, hk, rootTrap_of_pow_above hlong]
    rfl
  · have hentry : jobTransform s.cfg e = ⟨.mergeJob, e.jobId, if e.pathId = 0 then 0#32 else (e.pathId - 1) >>> 1,
        decide (e.pathId ≠ 0) && (e.pathId - 1).getLsbD 0, dft s.cfg k e.data⟩ := by
      rw [← parentTags_fst, ← parentTags_snd, ← recFft_eq_dft hc hr hle hk, ← jobTransform_data hk]
      rfl
    rw [exec_jfft_of_job he hkind, hk, rootTrap_of_pow hle, hr, hentry]
    rfl

/-! The merge of a pair (R239, R240) -/

theorem exec_jmerge_of_no_self {s : State} {js : JobIdx} (h : ∀ e, s.getJob js = some e → e.kind = .job) (jo : JobIdx) :
    exec (.jmerge js jo) s = .next (raise (trap .jobState js.toNat 3 0) s) := by
  rw [getJob_eq] at h
  simp only [exec, execJmerge, mergeSlots, jobWork_slot]
  cases he : s.jt[js.toNat]?.getD none with
  | none => rfl
  | some e => simp [h e he, Except.map]

theorem exec_jmerge_of_no_other {s : State} {js jo : JobIdx} {a : JobEntry} (ha : s.getJob js = some a)
    (hka : a.kind = .mergeJob) (h : ∀ e, s.getJob jo = some e → e.kind = .job) :
    exec (.jmerge js jo) s = .next (raise (trap .jobState jo.toNat 3 0) s) := by
  rw [getJob_eq] at h ha
  simp only [exec, execJmerge, mergeSlots, jobWork_slot, ha, hka]
  cases he : s.jt[jo.toNat]?.getD none with
  | none => rfl
  | some e => simp [h e he, Except.map]

/-- The checks of a merge of two MergeJobs on their tags and their length. -/
def mergeTrap (c : Cfg) (js jo : Nat) (a b : JobEntry) : Option Trap :=
  if pairMask a b ≠ 0 then some (trap .pairKey js jo (pairMask a b))
  else if c.jMaxLen < 2 * a.data.length then some (trap .capacity (2 * a.data.length) c.jMaxLen 0)
  else rootTrap c (2 * a.data.length)

/-- The work of a merge whose checks pass. -/
def mergedWork (c : Cfg) (reduced : Bool) (js jo : Nat) (a b : JobEntry) (w : JobWork) : JobWork :=
  ((w.put reduced js (mergeEntries c a b)).clear jo).useRoots

theorem mergeSlots_of_mergeJobs {c : Cfg} {w : JobWork} {js jo : Nat} {a b : JobEntry} (ha : w.slot js = some a)
    (hka : a.kind = .mergeJob) (hb : w.slot jo = some b) (hkb : b.kind = .mergeJob) (reduced : Bool) :
    mergeSlots c reduced js jo w = (mergeTrap c js jo a b).elim (.ok (mergedWork c reduced js jo a b w)) .error := by
  simp only [mergeSlots, ha, hka, hb, hkb, mergeTrap, ne_eq, not_true_eq_false, if_false]
  split_ifs
  case neg => cases rootTrap c (2 * a.data.length) <;> rfl
  all_goals rfl

section
variable {s : State} {js jo : JobIdx} {a b : JobEntry} (ha : s.getJob js = some a) (hka : a.kind = .mergeJob)
  (hb : s.getJob jo = some b) (hkb : b.kind = .mergeJob)
include ha hka hb hkb

theorem exec_jmerge_of_mergeJobs : exec (.jmerge js jo) s = settle s (guarded (mergeTrap s.cfg js.toNat jo.toNat a b)
    (s.withJobWork (mergedWork s.cfg (allReduced s.cfg a.data && allReduced s.cfg b.data) js.toNat jo.toNat a b
      s.jobWork))) := by
  rw [show exec (.jmerge js jo) s = settle s ((mergeSlots s.cfg (slotReduced s js && slotReduced s jo) js.toNat jo.toNat
    s.jobWork).map s.withJobWork) from rfl, mergeSlots_of_mergeJobs (w := s.jobWork) ha hka hb hkb, slotReduced_of_entry ha,
    slotReduced_of_entry hb]
  cases mergeTrap s.cfg js.toNat jo.toNat a b <;> rfl

theorem exec_jmerge_of_trap {t : Trap} (h : mergeTrap s.cfg js.toNat jo.toNat a b = some t) :
    exec (.jmerge js jo) s = .next (raise t s) := by
  rw [exec_jmerge_of_mergeJobs ha hka hb hkb, h]
  rfl

end

theorem mergeTrap_of_mask {c : Cfg} {js jo : Nat} {a b : JobEntry} (h : pairMask a b ≠ 0) :
    mergeTrap c js jo a b = some (trap .pairKey js jo (pairMask a b)) := if_pos h

theorem mergeTrap_of_too_long {c : Cfg} {a b : JobEntry} (hmask : pairMask a b = 0) (h : c.jMaxLen < 2 * a.data.length)
    (js jo : Nat) : mergeTrap c js jo a b = some (trap .capacity (2 * a.data.length) c.jMaxLen 0) := by
  rw [mergeTrap, if_neg (not_not.2 hmask), if_pos h]

/-- A mergeable pair whose merge the table takes leaves the root of the doubled length to check. -/
theorem mergeTrap_of_fits {c : Cfg} {a b : JobEntry} (hmask : pairMask a b = 0) (h : 2 * a.data.length ≤ c.jMaxLen)
    (js jo : Nat) : mergeTrap c js jo a b = rootTrap c (2 * a.data.length) := by
  rw [mergeTrap, if_neg (not_not.2 hmask), if_neg (Nat.not_lt.2 h)]

section
variable {c : Cfg} (hc : c.WellFormed)
include hc

/-- The powers a block multiplies by are the field powers of its root. -/
theorem powersFrom_oneM_getD {w : U256} (hw : w.toNat < c.n.toNat) {count i : Nat} (hi : i < count) :
    (powersFrom c w count c.oneM).getD i 0 = fieldPow c w i := by
  refine eq_of_denote_eq hc (allReduced_getD hc (powersFrom_allReduced hc w count _ (oneM_lt hc)) i) (fieldPow_lt hc hw i) ?_
  rw [powersFrom_getD hc w count _ i (oneM_lt hc) hi, denote_oneM hc, one_mul, denote_fieldPow hc hw]

theorem zipWith_twiddled {w : U256} (hw : w.toNat < c.n.toNat) (f : U256 → U256 → U256) {y0 y1 : List U256} {h : Nat}
    (h0 : y0.length = h) (h1 : y1.length = h) : List.zipWith f y0 (twiddled c w y1) =
      (List.range h).map fun i => f (y0.getD i 0) (monPro c (fieldPow c w i) (y1.getD i 0)) := by
  refine List.ext_getElem (by simp [h0, h1]) fun i hi _ => ?_
  rw [← List.getD_eq_getElem _ 0 hi]
  have hlt : i < h := by simpa [h0, h1] using hi
  rw [zipWith_getD f (by omega) (by rw [twiddled_length]; omega), twiddled,
    zipWith_getD _ (by rw [powersFrom_length]; omega) (by omega), powersFrom_oneM_getD hc hw (by omega), List.getElem_map,
    List.getElem_range]

/-- The butterflies of a block, element by element. -/
theorem combine_eq_map {w : U256} (hw : w.toNat < c.n.toNat) {y0 y1 : List U256} {h : Nat} (h0 : y0.length = h)
    (h1 : y1.length = h) : combine c w y0 y1 =
      ((List.range h).map fun i => monAdd c (y0.getD i 0) (monPro c (fieldPow c w i) (y1.getD i 0))) ++
        (List.range h).map fun i => monSub c (y0.getD i 0) (monPro c (fieldPow c w i) (y1.getD i 0)) := by
  rw [combine_eq, zipWith_twiddled hc hw _ h0 h1, zipWith_twiddled hc hw _ h0 h1]

end

theorem pairMask_eq (a b : JobEntry) : pairMask a b = (if a.jobId = b.jobId then 0 else 1) +
    (if a.pathId = b.pathId then 0 else 2) + (if a.side = b.side then 4 else 0) +
    (if a.data.length = b.data.length then 0 else 8) := by
  simp only [pairMask, ne_eq, ite_not]

theorem log2_double {k : Nat} : (2 * 2 ^ k).log2 = k + 1 := by rw [← pow_succ', Nat.log2_two_pow]

theorem mergeEntries_data (c : Cfg) {a : JobEntry} {k : Nat} (hk : a.data.length = 2 ^ k) (b : JobEntry) :
    (mergeEntries c a b).data = combine c (c.rootAt (k + 1)) (if a.side then b.data else a.data)
      (if a.side then a.data else b.data) := by
  simp only [mergeEntries, hk, log2_double]
  cases a.side <;> rfl

/-- Settles O51: the checks in their order, and the butterflies of the doubled length's root. -/
theorem jmergeMergesAPair : Obligations.JmergeMergesAPair := by
  intro s js jo _ _
  refine ⟨fun h => exec_jmerge_of_no_self h jo, fun a ha hka => ⟨exec_jmerge_of_no_other ha hka, fun b hb hkb => ?_⟩⟩
  rw [← pairMask_eq]
  have htrap : ∀ {t : Trap}, _ := fun {t} => exec_jmerge_of_trap (t := t) ha hka hb hkb
  refine ⟨fun hmask => htrap (mergeTrap_of_mask hmask), fun hmask hlong => htrap (mergeTrap_of_too_long hmask hlong _ _),
    fun k hk hmask hfit => ⟨fun hroot => htrap ?_, fun hc hroot hra hrb => ?_⟩⟩
  · rw [mergeTrap_of_fits hmask hfit, hk, ← pow_succ', rootTrap_of_pow_above hroot]
  · have hnone : mergeTrap s.cfg js.toNat jo.toNat a b = none := by
      rw [mergeTrap_of_fits hmask hfit, hk, ← pow_succ', rootTrap_of_pow hroot]
    have hlen := pairMask_zero_length hmask
    have hdata := (mergeEntries_data s.cfg hk b).trans (combine_eq_map hc (hc.root_lt _ hroot) (h := a.data.length)
      (by split <;> simp [hlen]) (by split <;> simp [hlen]))
    have hentry : mergeEntries s.cfg a b = ⟨.mergeJob, a.jobId, if a.pathId = 0 then 0#32 else (a.pathId - 1) >>> 1,
        decide (a.pathId ≠ 0) && (a.pathId - 1).getLsbD 0, (mergeEntries s.cfg a b).data⟩ := by
      rw [← parentTags_fst, ← parentTags_snd]
      rfl
    rw [hdata] at hentry
    rw [exec_jmerge_of_mergeJobs ha hka hb hkb, hnone, hra, hrb, Bool.and_self, mergedWork, hentry]
    rfl

/-! One fork undone (R234, R241) -/

section
variable {e : JobEntry} {k : Nat} (hk : e.data.length = 2 ^ (k + 1))
include hk

/-- The two leaves of one fork hold the even and the odd half of the vector. -/
theorem forkLeaf_one_data : (forkLeaf e 1 (2 ^ k) 0).data = evens e.data ∧ (forkLeaf e 1 (2 ^ k) 1).data = odds e.data := by
  obtain ⟨he, ho⟩ := halves_length hk
  constructor
  · refine List.ext_getElem (by rw [forkLeaf_length, he]) fun i _ h2 => ?_
    rw [← List.getD_eq_getElem _ 0 h2, (evens_odds_getD _ i).1]
    simp [forkLeaf, bitReverse, mul_comm]
  · refine List.ext_getElem (by rw [forkLeaf_length, ho]) fun i _ h2 => ?_
    rw [← List.getD_eq_getElem _ 0 h2, (evens_odds_getD _ i).2]
    simp [forkLeaf, bitReverse, mul_comm, add_comm]

variable (c : Cfg)

/-- The transform of a leaf: the transform of its half, the parent's number, and the leaf's side. -/
theorem jobTransform_forkLeaf_one (hp : 2 * e.pathId.toNat + 2 < 2 ^ 32) :
    jobTransform c (forkLeaf e 1 (2 ^ k) 0) = ⟨.mergeJob, e.jobId, e.pathId, false, recFft c k (evens e.data)⟩ ∧
    jobTransform c (forkLeaf e 1 (2 ^ k) 1) = ⟨.mergeJob, e.jobId, e.pathId, true, recFft c k (odds e.data)⟩ := by
  obtain ⟨heven, hodd⟩ := forkLeaf_one_data hk
  have hpath : ∀ i, (forkLeaf e 1 (2 ^ k) i).pathId = word (2 * e.pathId.toNat + i + 1) := fun i =>
    congrArg word (by rw [pow_one]; omega)
  have hword : word e.pathId.toNat = e.pathId := BitVec.ofNat_toNat _ _ |>.trans (BitVec.setWidth_eq _)
  have htags : ∀ i, i < 2 → parentTags (forkLeaf e 1 (2 ^ k) i).pathId = (e.pathId, decide (i = 1)) := by
    intro i hi
    rw [hpath, parentTags_succ (by omega), show (2 * e.pathId.toNat + i) / 2 = e.pathId.toNat by omega, hword,
      show (2 * e.pathId.toNat + i) % 2 = i by omega]
  have hentry : ∀ i, jobTransform c (forkLeaf e 1 (2 ^ k) i) = ⟨.mergeJob, e.jobId,
      (parentTags (forkLeaf e 1 (2 ^ k) i).pathId).1, (parentTags (forkLeaf e 1 (2 ^ k) i).pathId).2,
      (jobTransform c (forkLeaf e 1 (2 ^ k) i)).data⟩ := fun _ => rfl
  constructor
  · rw [hentry, htags 0 (by omega), jobTransform_data (forkLeaf_length e 1 _ 0), heven]
    rfl
  · rw [hentry, htags 1 (by omega), jobTransform_data (forkLeaf_length e 1 _ 1), hodd]
    rfl

/-- Both leaves of one fork, transformed, merge to the transform of the Job, whichever comes first. -/
theorem mergeEntries_forkLeaf_one (hp : 2 * e.pathId.toNat + 2 < 2 ^ 32) :
    pairMask (jobTransform c (forkLeaf e 1 (2 ^ k) 0)) (jobTransform c (forkLeaf e 1 (2 ^ k) 1)) = 0 ∧
    mergeEntries c (jobTransform c (forkLeaf e 1 (2 ^ k) 0)) (jobTransform c (forkLeaf e 1 (2 ^ k) 1)) = jobTransform c e ∧
    mergeEntries c (jobTransform c (forkLeaf e 1 (2 ^ k) 1)) (jobTransform c (forkLeaf e 1 (2 ^ k) 0)) = jobTransform c e := by
  obtain ⟨heven, hodd⟩ := jobTransform_forkLeaf_one hk c hp
  obtain ⟨he, ho⟩ := halves_length hk
  have hle := recFft_length c k _ he
  have hlo := recFft_length c k _ ho
  have hself : jobTransform c e = ⟨.mergeJob, e.jobId, (parentTags e.pathId).1, (parentTags e.pathId).2,
      combine c (c.rootAt (k + 1)) (recFft c k (evens e.data)) (recFft c k (odds e.data))⟩ := by
    rw [← recFft, ← jobTransform_data hk]
    rfl
  rw [heven, hodd, hself]
  refine ⟨by simp [pairMask, hle, hlo], ?_, ?_⟩
  · simp [mergeEntries, hle, log2_double]
  · simp [mergeEntries, hlo, log2_double]

end

/-- Settles O34: one level of the recursion is the merge of the two halves' transforms. -/
theorem forkTransformMergeIsTheTransform : Obligations.ForkTransformMergeIsTheTransform :=
  fun c _ _ _ _ _ hk _ hp => mergeEntries_forkLeaf_one hk c hp

end Sys2Proof.Proofs
end

section
/-! The occupied slots of one `job_id` in ascending order, and the least pair among them (44_job_merge.md R242, R243); `JFIND`. -/

namespace Sys2Proof.Proofs

open Sys2Proof.Machine Sys2Proof.Laws

/-! Occupied slots -/

section
variable {jt : Vector (Option JobEntry) 64} {p : JobEntry → Bool} {id : Word} {j : Nat} {e : JobEntry}

theorem lt_of_slot_eq_some (h : jt[j]?.getD none = some e) : j < 64 := by
  by_contra hge
  rw [Vector.getElem?_eq_none (by omega)] at h
  cases h

/-- What `slotsWhere` lists for one slot. -/
theorem slotsWhere_eq (jt : Vector (Option JobEntry) 64) (p : JobEntry → Bool) : slotsWhere jt p =
    (List.range 64).filterMap fun j => ((jt[j]?.getD none).filter p).map (Prod.mk j) := by
  refine List.filterMap_congr fun j _ => ?_
  cases jt[j]?.getD none with
  | none => rfl
  | some e => cases hp : p e <;> simp [hp, Option.filter]

theorem mem_slotsWhere : (j, e) ∈ slotsWhere jt p ↔ jt[j]?.getD none = some e ∧ p e = true := by
  simp only [slotsWhere_eq, List.mem_filterMap, List.mem_range, Option.map_eq_some_iff, Option.filter_eq_some_iff,
    Prod.mk.injEq]
  constructor
  · rintro ⟨_, -, _, h, rfl, rfl⟩
    exact h
  · intro h
    exact ⟨j, lt_of_slot_eq_some h.1, e, h, rfl, rfl⟩

theorem slotsWhere_pairwise (jt : Vector (Option JobEntry) 64) (p : JobEntry → Bool) :
    (slotsWhere jt p).Pairwise fun a b => a.1 < b.1 := by
  rw [slotsWhere_eq, List.pairwise_filterMap]
  refine List.pairwise_lt_range.imp fun {a b} hab x hx y hy => ?_
  obtain ⟨_, -, rfl⟩ := Option.map_eq_some_iff.1 hx
  obtain ⟨_, -, rfl⟩ := Option.map_eq_some_iff.1 hy
  exact hab

theorem slotsWhere_map_fst (jt : Vector (Option JobEntry) 64) (p : JobEntry → Bool) :
    (slotsWhere jt p).map (·.1) = (List.range 64).filter fun j => (jt[j]?.getD none).any p := by
  rw [slotsWhere_eq, List.map_filterMap, ← List.filterMap_eq_filter]
  refine List.filterMap_congr fun j _ => ?_
  cases h : jt[j]?.getD none with
  | none => simp [Option.guard, h]
  | some e => cases hp : p e <;> simp [hp, h, Option.filter, Option.guard]

theorem slotsWhere_length_le (jt : Vector (Option JobEntry) 64) (p : JobEntry → Bool) : (slotsWhere jt p).length ≤ 64 := by
  rw [← List.length_map (·.1), slotsWhere_map_fst]
  exact (List.length_filter_le _ _).trans (List.length_range).le

theorem mem_mergeJobsOf : (j, e) ∈ mergeJobsOf jt id ↔ jt[j]?.getD none = some e ∧ e.kind = .mergeJob ∧ e.jobId = id := by
  simp [mergeJobsOf, mem_slotsWhere]

theorem mem_jobsOf : (j, e) ∈ jobsOf jt id ↔ jt[j]?.getD none = some e ∧ e.kind = .job ∧ e.jobId = id := by
  simp [jobsOf, mem_slotsWhere]

end

section
variable {s : State} {id : Word}

theorem isMergeSlot_iff {j : Nat} : isMergeSlot s id j = true ↔ ∃ e, (j, e) ∈ mergeJobsOf s.jt id := by
  simp only [isMergeSlot, mem_mergeJobsOf]
  cases s.jt[j]?.getD none <;> simp

theorem isJobSlot_iff {j : Nat} : isJobSlot s id j = true ↔ ∃ e, (j, e) ∈ jobsOf s.jt id := by
  simp only [isJobSlot, mem_jobsOf]
  cases s.jt[j]?.getD none <;> simp

theorem mergeCount_eq (s : State) (id : Word) : mergeCount s id = (mergeJobsOf s.jt id).length := by
  rw [← List.length_map (·.1), mergeJobsOf, slotsWhere_map_fst, mergeCount]
  congr 1
  refine List.filter_congr fun j _ => ?_
  simp only [isMergeSlot]
  cases s.jt[j]?.getD none <;> rfl

end

/-! The least pair -/

/-- Two slots of a list hold mates, the first before the second. -/
def MatesAt (l : List (Nat × JobEntry)) (i j : Nat) : Prop :=
  ∃ e o, (i, e) ∈ l ∧ (j, o) ∈ l ∧ i < j ∧ isMate e o = true

theorem isMate_iff {e o : JobEntry} : isMate e o = true ↔ e.pathId = o.pathId ∧ e.side ≠ o.side := by
  simp [isMate]

theorem MatesAt.one_lt_length {l : List (Nat × JobEntry)} {i j : Nat} (h : MatesAt l i j) : 1 < l.length := by
  obtain ⟨e, o, hi, hj, hij, -⟩ := h
  by_contra hle
  obtain ⟨x, rfl⟩ := List.length_eq_one_iff.1 (Nat.le_antisymm (Nat.not_lt.1 hle) (List.length_pos_of_mem hi))
  cases (List.mem_singleton.1 hi).trans (List.mem_singleton.1 hj).symm
  exact lt_irrefl _ hij

/-- No slot of the list comes before `(i, j)` with its mate. -/
def LeastMates (l : List (Nat × JobEntry)) (i j : Nat) : Prop :=
  MatesAt l i j ∧ ∀ i' j', MatesAt l i' j' → i < i' ∨ i = i' ∧ j ≤ j'

theorem LeastMates.unique {l : List (Nat × JobEntry)} {i j i' j' : Nat} (h : LeastMates l i j) (h' : LeastMates l i' j') :
    i = i' ∧ j = j' := by
  have h1 := h.2 _ _ h'.1
  have h2 := h'.2 _ _ h.1
  omega

/-- The first of two mates of an ascending list is its head, or both lie in the tail. -/
theorem matesAt_cons {i : Nat} {e : JobEntry} {l : List (Nat × JobEntry)} (hl : ∀ x ∈ l, i < x.1) {a b : Nat} :
    MatesAt ((i, e) :: l) a b ↔ (a = i ∧ ∃ o, (b, o) ∈ l ∧ isMate e o = true) ∨ MatesAt l a b := by
  constructor
  · rintro ⟨x, o, hx, ho, hab, hm⟩
    rcases List.mem_cons.1 hx with hx | hx' <;> rcases List.mem_cons.1 ho with ho | ho'
    · cases hx
      cases ho
      exact absurd hab (lt_irrefl _)
    · cases hx
      exact .inl ⟨rfl, o, ho', hm⟩
    · cases ho
      exact absurd hab (Nat.lt_asymm (hl _ hx'))
    · exact .inr ⟨x, o, hx', ho', hab, hm⟩
  · rintro (⟨rfl, o, ho, hm⟩ | ⟨x, o, hx, ho, hab, hm⟩)
    · exact ⟨e, o, by simp, by simp [ho], hl _ ho, hm⟩
    · exact ⟨x, o, by simp [hx], by simp [ho], hab, hm⟩

/-- `find_pair` answers the least pair of mates of an ascending list, or there is none. -/
theorem findPair_spec : ∀ l : List (Nat × JobEntry), l.Pairwise (fun a b => a.1 < b.1) →
    (∃ i j, findPair l = some (i, j) ∧ LeastMates l i j) ∨ (findPair l = none ∧ ∀ i j, ¬ MatesAt l i j)
  | [], _ => .inr ⟨rfl, fun i j h => by obtain ⟨e, o, h, -⟩ := h; cases h⟩
  | (i, e) :: l, hl => by
    obtain ⟨hhead, htail⟩ := List.pairwise_cons.1 hl
    unfold findPair
    cases hf : l.find? fun o => isMate e o.2 with
    | some x =>
      obtain ⟨j, o⟩ := x
      have hmem := List.mem_of_find?_eq_some hf
      have hm : isMate e o = true := by simpa using List.find?_some hf
      refine .inl ⟨i, j, rfl, (matesAt_cons hhead).2 (.inl ⟨rfl, o, hmem, hm⟩), fun i' j' h' => ?_⟩
      rcases (matesAt_cons hhead).1 h' with ⟨rfl, o', ho', hm'⟩ | ⟨x, -, hx, -⟩
      · obtain ⟨_, u, v, rfl, hu⟩ := List.find?_eq_some_iff_append.1 hf
        refine .inr ⟨rfl, ?_⟩
        rcases List.mem_append.1 ho' with hin | hin
        · have hno := hu _ hin
          simp [hm'] at hno
        · rcases List.mem_cons.1 hin with heq | hin
          · cases heq
            exact le_rfl
          · exact ((List.pairwise_cons.1 (List.pairwise_append.1 htail).2.1).1 _ hin).le
      · exact .inl (hhead _ hx)
    | none =>
      have hnone : ∀ b, ¬ ∃ o, (b, o) ∈ l ∧ isMate e o = true := by
        rintro b ⟨o, ho, hm⟩
        exact (List.find?_eq_none.1 hf _ ho) hm
      have hiff : ∀ a b, MatesAt ((i, e) :: l) a b ↔ MatesAt l a b := fun a b =>
        (matesAt_cons hhead).trans ⟨fun h => h.resolve_left fun h => hnone b h.2, .inr⟩
      rcases findPair_spec l htail with ⟨a, b, hab, hleast⟩ | ⟨hab, hno⟩
      · exact .inl ⟨a, b, hab, (hiff a b).2 hleast.1, fun a' b' h' => hleast.2 a' b' ((hiff a' b').1 h')⟩
      · exact .inr ⟨hab, fun a b h => hno a b ((hiff a b).1 h)⟩

section
variable {jt : Vector (Option JobEntry) 64} {id : Word}

theorem findPair_eq_some_iff {i j : Nat} :
    findPair (mergeJobsOf jt id) = some (i, j) ↔ LeastMates (mergeJobsOf jt id) i j := by
  rcases findPair_spec _ (slotsWhere_pairwise jt _) with ⟨a, b, hab, hleast⟩ | ⟨hab, hno⟩
  · rw [mergeJobsOf, hab, Option.some.injEq, Prod.mk.injEq]
    refine ⟨?_, hleast.unique⟩
    rintro ⟨rfl, rfl⟩
    exact hleast
  · rw [mergeJobsOf, hab]
    exact ⟨nofun, fun h => absurd h.1 (hno i j)⟩

theorem findPair_eq_none_iff : findPair (mergeJobsOf jt id) = none ↔ ∀ i j, ¬ MatesAt (mergeJobsOf jt id) i j := by
  rcases findPair_spec _ (slotsWhere_pairwise jt _) with ⟨a, b, hab, hleast⟩ | ⟨hab, hno⟩
  · rw [mergeJobsOf, hab]
    exact ⟨nofun, fun h => absurd hleast.1 (h a b)⟩
  · rw [mergeJobsOf, hab]
    exact ⟨fun _ => hno, fun _ => rfl⟩

end

/-- The pairs R243 speaks of are the mates among the MergeJobs of the `job_id`. -/
theorem isPair_iff {s : State} {id : Word} {i j : Nat} : isPair s id i j ↔ MatesAt (mergeJobsOf s.jt id) i j := by
  constructor
  · rintro ⟨hij, -, hi, hj, a, b, ha, hb, hpath, hside⟩
    obtain ⟨a', ha'⟩ := isMergeSlot_iff.1 hi
    obtain ⟨b', hb'⟩ := isMergeSlot_iff.1 hj
    cases ha.symm.trans (mem_mergeJobsOf.1 ha').1
    cases hb.symm.trans (mem_mergeJobsOf.1 hb').1
    exact ⟨a, b, ha', hb', hij, isMate_iff.2 ⟨hpath, hside⟩⟩
  · rintro ⟨a, b, ha, hb, hij, hm⟩
    have hb' := (mem_mergeJobsOf.1 hb).1
    exact ⟨hij, lt_of_slot_eq_some hb', isMergeSlot_iff.2 ⟨a, ha⟩, isMergeSlot_iff.2 ⟨b, hb⟩, a, b,
      (mem_mergeJobsOf.1 ha).1, hb', isMate_iff.1 hm⟩

theorem leastMates_of_isPair {s : State} {id : Word} {i j : Nat} (h : isPair s id i j)
    (hleast : ∀ i' j', isPair s id i' j' → i < i' ∨ i = i' ∧ j ≤ j') : LeastMates (mergeJobsOf s.jt id) i j :=
  ⟨isPair_iff.1 h, fun i' j' h' => hleast i' j' (isPair_iff.2 h')⟩

theorem findPair_of_no_pair {s : State} {id : Word} (h : ∀ i j, ¬ isPair s id i j) :
    findPair (mergeJobsOf s.jt id) = none :=
  findPair_eq_none_iff.2 fun i j hm => h i j (isPair_iff.2 hm)

/-- Settles O52: `find_pair` answers the least pair of an ascending list. -/
theorem jfindReportsTheLeastPair : Obligations.JfindReportsTheLeastPair := by
  intro s id
  refine ⟨rfl, fun i j h hleast => ?_, fun hno hle => ?_, fun hno hlt => ?_⟩
  · have hf := findPair_eq_some_iff.2 (leastMates_of_isPair h hleast)
    simp only [exec, execJfind, hf, mergeCount_eq]
    rfl
  · rw [mergeCount_eq] at hle
    simp only [exec, execJfind, findPair_of_no_pair hno, Nat.not_lt.2 hle, if_false, mergeCount_eq]
    rfl
  · rw [mergeCount_eq] at hlt
    simp only [exec, execJfind, findPair_of_no_pair hno, hlt, if_true, mergeCount_eq, settle_error]

end Sys2Proof.Proofs
end

section
/-! The two phases of `JRUN` on the table (44_job_merge.md R244, R245): the transforms, slot by slot, and the merge rounds, each of
which leaves one MergeJob less. -/

namespace Sys2Proof.Proofs

open Sys2Proof.Machine Sys2Proof.Laws

section
variable {c : Cfg} {reduced : Bool} {id : Word} {w w' : JobWork}

/-! Slots after a step -/

theorem slot_eq (w : JobWork) (j : Nat) : w.slot j = w.jt[j]?.getD none := rfl

theorem slot_lt {j : Nat} {e : JobEntry} (h : w.slot j = some e) : j < 64 := lt_of_slot_eq_some h

theorem slot_clear (w : JobWork) (j k : Nat) : (w.clear j).slot k = if k = j then none else w.slot k := by
  by_cases hk : k = j
  · subst hk
    by_cases hlt : k < 64 <;> simp [JobWork.clear, JobWork.slot, hlt]
  · simp [JobWork.clear, JobWork.slot, hk, Ne.symm hk]

/-- An entry with the elements a command writes: the computed ones, or free values (U1). -/
def opened (reduced : Bool) (n : Nat) (e : JobEntry) : JobEntry := { e with data := (openVec reduced e.data n).1 }

@[simp] theorem opened_true (n : Nat) (e : JobEntry) : opened true n e = e := rfl

@[simp] theorem opened_kind (reduced : Bool) (n : Nat) (e : JobEntry) : (opened reduced n e).kind = e.kind := rfl

@[simp] theorem opened_jobId (reduced : Bool) (n : Nat) (e : JobEntry) : (opened reduced n e).jobId = e.jobId := rfl

theorem slot_put_of_lt (w : JobWork) (reduced : Bool) {j : Nat} (hj : j < 64) (e : JobEntry) (k : Nat) :
    (w.put reduced j e).slot k = if k = j then some (opened reduced w.draws e) else w.slot k := by
  rw [slot_put]
  by_cases hk : k = j
  · subst hk
    rw [if_pos ⟨rfl, hj⟩, if_pos rfl, opened]
  · rw [if_neg fun h => hk h.1.symm, if_neg hk]

/-- The work of a transform whose checks pass. -/
def transformedWork (c : Cfg) (reduced : Bool) (j : Nat) (e : JobEntry) (w : JobWork) : JobWork :=
  (w.put reduced j (jobTransform c e)).useRoots

theorem transformedWork_slot {j : Nat} {e : JobEntry} (he : w.slot j = some e) (k : Nat) :
    (transformedWork c reduced j e w).slot k =
      if k = j then some (opened reduced w.draws (jobTransform c e)) else w.slot k :=
  slot_put_of_lt w reduced (slot_lt he) _ k

theorem mergedWork_slot {i j : Nat} {a b : JobEntry} (ha : w.slot i = some a) (k : Nat) :
    (mergedWork c reduced i j a b w).slot k = if k = j then none
      else if k = i then some (opened reduced w.draws (mergeEntries c a b)) else w.slot k := by
  rw [show (mergedWork c reduced i j a b w).slot k = ((w.put reduced i (mergeEntries c a b)).clear j).slot k from rfl,
    slot_clear, slot_put_of_lt w reduced (slot_lt ha)]

theorem fftSlot_of_fits {j : Nat} {e : JobEntry} (he : w.slot j = some e) (hkind : e.kind = .job)
    (hfit : e.data.length.log2 ≤ c.maxLog) : fftSlot c reduced j w = .ok (transformedWork c reduced j e w) := by
  rw [fftSlot_of_job he hkind, show rootTrap c e.data.length = none from if_neg (Nat.not_lt.2 hfit)]
  rfl

/-! The transforms -/

theorem fftLeaves_append : ∀ (is js : List Nat) (w : JobWork),
    fftLeaves c reduced (is ++ js) w = (fftLeaves c reduced is w).bind (fftLeaves c reduced js)
  | [], _, _ => rfl
  | i :: is, js, w => by
    rw [List.cons_append, fftLeaves, fftLeaves]
    cases fftSlot c reduced i w with
    | error t => rfl
    | ok w1 => exact fftLeaves_append is js w1

/-- Slots that hold Jobs the root table has roots for are transformed, and no other slot changes. -/
theorem fftLeaves_of_fit : ∀ (js : List Nat) {w : JobWork}, js.Nodup →
    (∀ j ∈ js, ∃ e, w.slot j = some e ∧ e.kind = .job ∧ e.data.length.log2 ≤ c.maxLog) →
    ∃ w', fftLeaves c reduced js w = .ok w' ∧ (∀ k, k ∉ js → w'.slot k = w.slot k) ∧
      (js ≠ [] → w'.rinit = true) ∧
      (reduced = true → w'.draws = w.draws ∧ ∀ j ∈ js, ∀ e, w.slot j = some e → w'.slot j = some (jobTransform c e))
  | [], w, _, _ => ⟨w, rfl, fun _ _ => rfl, fun h => absurd rfl h, fun _ => ⟨rfl, nofun⟩⟩
  | j :: js, w, hnodup, hjobs => by
    obtain ⟨hj, hnodup⟩ := List.nodup_cons.1 hnodup
    obtain ⟨e, he, hkind, hfit⟩ := hjobs j (by simp)
    have hne : ∀ k ∈ js, k ≠ j := fun k hk hkj => hj (hkj ▸ hk)
    have hslot := transformedWork_slot (c := c) (reduced := reduced) he
    obtain ⟨w', hw', hothers, hroots, hdone⟩ := fftLeaves_of_fit js (w := transformedWork c reduced j e w) hnodup
      fun k hk => by
        rw [hslot, if_neg (hne k hk)]
        exact hjobs k (by simp [hk])
    refine ⟨w', by rw [fftLeaves, fftSlot_of_fits he hkind hfit]; exact hw', fun k hk => ?_, fun _ => ?_, fun hr => ?_⟩
    · obtain ⟨hkj, hk⟩ := not_or.1 (List.mem_cons.not.1 hk)
      rw [hothers k hk, hslot, if_neg hkj]
    · by_cases hempty : js = []
      · subst hempty
        cases hw'
        rfl
      · exact hroots hempty
    · subst hr
      obtain ⟨hdraws, hdone⟩ := hdone rfl
      refine ⟨hdraws, fun k hk x hx => ?_⟩
      rcases List.mem_cons.1 hk with rfl | hk
      · cases he.symm.trans hx
        rw [hothers _ hj, hslot, if_pos rfl, opened_true]
      · exact hdone k hk x (by rw [hslot, if_neg (hne k hk), hx])

/-! The merge rounds -/

/-- Mates among the MergeJobs of a `job_id`, and what merging them comes to. -/
theorem mergeSlots_of_mates {i j : Nat} (h : MatesAt (mergeJobsOf w.jt id) i j) :
    ∃ a b, (w.slot i = some a ∧ a.kind = .mergeJob ∧ a.jobId = id) ∧ (w.slot j = some b ∧ b.kind = .mergeJob ∧ b.jobId = id) ∧
      i < j ∧ a.pathId = b.pathId ∧ a.side ≠ b.side ∧ ∀ reduced, mergeSlots c reduced i j w =
        (mergeTrap c i j a b).elim (.ok (mergedWork c reduced i j a b w)) .error := by
  obtain ⟨a, b, ha, hb, hij, hm⟩ := h
  obtain ⟨hpath, hside⟩ := isMate_iff.1 hm
  rw [mem_mergeJobsOf, ← slot_eq] at ha hb
  exact ⟨a, b, ha, hb, hij, hpath, hside, mergeSlots_of_mergeJobs ha.1 ha.2.1 hb.1 hb.2.1⟩

/-- A merge leaves one MergeJob of the `job_id` less. -/
theorem mergeJobsOf_mergedWork_length {i j : Nat} {a b : JobEntry} (ha : w.slot i = some a ∧ a.kind = .mergeJob ∧ a.jobId = id)
    (hb : w.slot j = some b ∧ b.kind = .mergeJob ∧ b.jobId = id) :
    (mergeJobsOf (mergedWork c reduced i j a b w).jt id).length < (mergeJobsOf w.jt id).length := by
  have hi : (i, a) ∈ mergeJobsOf w.jt id := mem_mergeJobsOf.2 ha
  have hj : (j, b) ∈ mergeJobsOf w.jt id := mem_mergeJobsOf.2 hb
  have hmem : j ∈ (mergeJobsOf w.jt id).map (·.1) := List.mem_map_of_mem hj
  have hsub : (mergeJobsOf (mergedWork c reduced i j a b w).jt id).map (·.1) ⊆ ((mergeJobsOf w.jt id).map (·.1)).erase j := by
    intro k hk
    obtain ⟨⟨k, x⟩, hx, rfl⟩ := List.mem_map.1 hk
    obtain ⟨hslot, hkind⟩ := mem_mergeJobsOf.1 hx
    rw [← slot_eq, mergedWork_slot ha.1] at hslot
    split_ifs at hslot with hkj hki
    · exact (List.mem_erase_of_ne hkj).2 (List.mem_map.2 ⟨(i, a), hi, hki.symm⟩)
    · exact (List.mem_erase_of_ne hkj).2 (List.mem_map_of_mem (mem_mergeJobsOf.2 ⟨hslot, hkind⟩))
  have hnodup : ((mergeJobsOf (mergedWork c reduced i j a b w).jt id).map (·.1)).Nodup :=
    (List.pairwise_map.2 (slotsWhere_pairwise _ _)).imp fun h => Nat.ne_of_lt h
  have hle := (hnodup.subperm hsub).length_le
  rw [List.length_erase_of_mem hmem, List.length_map, List.length_map] at hle
  have hpos := List.length_pos_of_mem hj
  omega

theorem mergeRounds_of_le_one (n : Nat) (h : (mergeJobsOf w.jt id).length ≤ 1) : mergeRounds c reduced id n w = .ok w := by
  cases n with
  | zero => rfl
  | succ n => simp only [mergeRounds, h, if_true]

theorem mergeRounds_of_no_pair (n : Nat) (h : 1 < (mergeJobsOf w.jt id).length) (hf : findPair (mergeJobsOf w.jt id) = none) :
    mergeRounds c reduced id (n + 1) w = .error (trap .noPair id.toNat (mergeJobsOf w.jt id).length 0) := by
  simp only [mergeRounds, Nat.not_le.2 h, if_false, hf]

theorem mergeRounds_of_pair (n : Nat) {i j : Nat} (hf : findPair (mergeJobsOf w.jt id) = some (i, j)) :
    mergeRounds c reduced id (n + 1) w = (mergeSlots c reduced i j w).bind (mergeRounds c reduced id n) := by
  have hlen := Nat.not_le.2 (findPair_eq_some_iff.1 hf).1.one_lt_length
  simp only [mergeRounds, hlen, if_false, hf]

/-- As many rounds as there are MergeJobs, less one, are enough. -/
theorem mergeRounds_succ : ∀ (n : Nat) {w : JobWork}, (mergeJobsOf w.jt id).length ≤ n + 1 →
    mergeRounds c reduced id (n + 1) w = mergeRounds c reduced id n w
  | 0, w, h => (mergeRounds_of_le_one 1 h).trans (mergeRounds_of_le_one 0 h).symm
  | n + 1, w, h => by
    by_cases hone : (mergeJobsOf w.jt id).length ≤ 1
    · rw [mergeRounds_of_le_one _ hone, mergeRounds_of_le_one _ hone]
    · cases hf : findPair (mergeJobsOf w.jt id) with
      | none => rw [mergeRounds_of_no_pair _ (by omega) hf, mergeRounds_of_no_pair _ (by omega) hf]
      | some p =>
        obtain ⟨i, j⟩ := p
        obtain ⟨a, b, ha, hb, -, -, -, hmerge⟩ := mergeSlots_of_mates (c := c) (findPair_eq_some_iff.1 hf).1
        rw [mergeRounds_of_pair _ hf, mergeRounds_of_pair _ hf, hmerge]
        cases mergeTrap c i j a b with
        | some t => rfl
        | none =>
          have hlen := mergeJobsOf_mergedWork_length (c := c) (reduced := reduced) ha hb
          exact mergeRounds_succ n (by omega)

/-! What every step of a run keeps, the run keeps -/

/-- The slots listed hold entries of the `job_id`. -/
def HoldId (id : Word) (js : List Nat) (w : JobWork) : Prop := ∀ j ∈ js, ∃ e, w.slot j = some e ∧ e.jobId = id

/-- A statement about the table that every transform and every merge of entries of the `job_id` keeps. -/
structure RunKeeps (c : Cfg) (reduced : Bool) (id : Word) (P : JobWork → Prop) : Prop where
  transform : ∀ w j e, P w → w.slot j = some e → e.jobId = id → P (transformedWork c reduced j e w)
  merge : ∀ w i j a b, P w → w.slot i = some a → a.jobId = id → w.slot j = some b → b.jobId = id →
    a.data.length = b.data.length → P (mergedWork c reduced i j a b w)

variable {P : JobWork → Prop} (h : RunKeeps c reduced id P)
include h

theorem RunKeeps.fftLeaves : ∀ (js : List Nat) {w : JobWork}, HoldId id js w → P w →
    Machine.fftLeaves c reduced js w = .ok w' → P w'
  | [], _, _, hP, hw => by cases hw; exact hP
  | j :: js, w, hid, hP, hw => by
    obtain ⟨w1, h1, h2⟩ := bind_eq_ok hw
    obtain ⟨e, he, -, -, rfl⟩ := fftSlot_eq_ok h1
    obtain ⟨x, hx, hxid⟩ := hid j (by simp)
    cases he.symm.trans hx
    refine RunKeeps.fftLeaves js (w := transformedWork c reduced j e w) (fun k hk => ?_) (h.transform w j e hP he hxid) h2
    rw [transformedWork_slot he]
    split_ifs
    · exact ⟨_, rfl, hxid⟩
    · exact hid k (by simp [hk])

theorem RunKeeps.mergeRounds : ∀ (n : Nat) {w : JobWork}, P w → Machine.mergeRounds c reduced id n w = .ok w' → P w'
  | 0, _, hP, hw => by cases hw; exact hP
  | n + 1, w, hP, hw => by
    by_cases hone : (mergeJobsOf w.jt id).length ≤ 1
    · rw [mergeRounds_of_le_one _ hone] at hw
      cases hw
      exact hP
    · cases hf : findPair (mergeJobsOf w.jt id) with
      | none =>
        rw [mergeRounds_of_no_pair _ (by omega) hf] at hw
        cases hw
      | some p =>
        obtain ⟨i, j⟩ := p
        obtain ⟨a, b, ⟨ha, -, haid⟩, ⟨hb, -, hbid⟩, -⟩ := mergeSlots_of_mates (c := c) (findPair_eq_some_iff.1 hf).1
        rw [mergeRounds_of_pair _ hf] at hw
        obtain ⟨w1, h1, h2⟩ := bind_eq_ok hw
        obtain ⟨a', b', ha', hb', hmask, -, rfl⟩ := mergeSlots_eq_ok h1
        cases ha.symm.trans ha'
        cases hb.symm.trans hb'
        exact RunKeeps.mergeRounds n (h.merge w i j a b hP ha haid hb hbid (pairMask_zero_length hmask)) h2

/-- The Jobs of a `job_id` are entries of it. -/
theorem RunKeeps.runTree (hP : P w) (hw : Machine.runTree c reduced id w = .ok w') : P w' := by
  obtain ⟨w1, h1, h2⟩ := bind_eq_ok hw
  refine RunKeeps.mergeRounds h 64 (RunKeeps.fftLeaves h _ (fun j hj => ?_) hP h1) h2
  obtain ⟨⟨j, e⟩, he, rfl⟩ := List.mem_map.1 hj
  obtain ⟨hslot, -, hid⟩ := mem_jobsOf.1 he
  exact ⟨e, hslot, hid⟩

end

end Sys2Proof.Proofs
end

section
/-! `JST`, `JQRY`, and `JRUN`: its report, its faults, and its first step (44_job_merge.md R245 to R247). -/

namespace Sys2Proof.Proofs

open Sys2Proof.Machine Sys2Proof.Laws

/-! Reading out (R246, R247) -/

section
variable {s : State} {js : JobIdx} {dst : Word}

theorem exec_jst_of_empty (h : s.getJob js = none) :
    exec (.jst js dst) s = .next (raise (trap .jobState js.toNat 4 0) s) := by
  simp only [exec, execJst, h, settle_error]

theorem exec_jst_of_entry {e : JobEntry} (h : s.getJob js = some e) : exec (.jst js dst) s =
    settle s (guarded (boundsTrap s dst.toNat e.data.length) (s.putVec dst.toNat (allReduced s.cfg e.data) e.data)) := by
  simp only [exec, execJst, h]

theorem exec_jqry_of_empty (h : s.getJob js = none) : exec (.jqry js) s = .next (complete (s.setRes 0 0 0)) := by
  simp only [exec, execJqry, h, settle_ok]

theorem exec_jqry_of_entry {e : JobEntry} (h : s.getJob js = some e) :
    exec (.jqry js) s = .next (complete (s.setRes (jobStatus e) e.pathId e.jobId)) := by
  simp only [exec, execJqry, h, settle_ok]

theorem jobStatus_of_length {e : JobEntry} {k : Nat} (hk : e.data.length = 2 ^ k) (hlt : k < 256) : jobStatus e =
    BitVec.ofNat 32 (1 + (if e.kind = .mergeJob then 2 else 0) + (if e.side then 4 else 0) + 256 * k) := by
  rw [jobStatus, hk, Nat.log2_two_pow, Nat.mod_eq_of_lt hlt, mul_comm k, word]

end

theorem exec_jst_and_jqry (s : State) (js : JobIdx) (dst : Word) :
    (s.getJob js = none →
      exec (.jst js dst) s = .next (raise (trap .jobState js.toNat 4 0) s) ∧
      exec (.jqry js) s = .next (complete (s.setRes 0 0 0))) ∧
    ∀ (e : JobEntry) (k : Nat), s.getJob js = some e → e.data.length = 2 ^ k →
      (s.cfg.vmSize < dst.toNat + 2 ^ k →
        exec (.jst js dst) s = .next (raise (trap .vmBounds dst.toNat (2 ^ k) 0) s)) ∧
      (dst.toNat + 2 ^ k ≤ s.cfg.vmSize → allReduced s.cfg e.data = true →
        exec (.jst js dst) s = .next (complete (s.memWrite dst.toNat e.data))) ∧
      (k < 256 → exec (.jqry js) s = .next (complete (s.setRes
        (BitVec.ofNat 32 (1 + (if e.kind = .mergeJob then 2 else 0) + (if e.side then 4 else 0) + 256 * k))
        e.pathId e.jobId))) := by
  refine ⟨fun h => ⟨exec_jst_of_empty h, exec_jqry_of_empty h⟩,
    fun e k he hk => ⟨fun hout => ?_, fun hin hr => ?_, fun hlt => ?_⟩⟩
  · rw [exec_jst_of_entry he, hk, boundsTrap_of_not_fits hout]
    rfl
  · rw [exec_jst_of_entry he, hk, boundsTrap_of_fits hin, hr, guarded_none, settle_ok, putVec_true]
  · rw [exec_jqry_of_entry he, jobStatus_of_length hk hlt]

/-! The report of a run -/

theorem exec_jrun (s : State) (id : Word) : exec (.jrun id) s =
    settle s ((runTree s.cfg (treeReduced s.cfg s.jt id) id s.jobWork).map fun w => reportRun (s.withJobWork w) id) := rfl

section
variable {s : State} {id : Word}

theorem exec_jrun_of_error {t : Trap} (h : runTree s.cfg (treeReduced s.cfg s.jt id) id s.jobWork = .error t) :
    exec (.jrun id) s = .next (raise t s) := by
  rw [exec_jrun, h]
  rfl

theorem exec_jrun_of_ok {w : JobWork} (h : runTree s.cfg (treeReduced s.cfg s.jt id) id s.jobWork = .ok w) :
    exec (.jrun id) s = .next (complete (reportRun (s.withJobWork w) id)) := by
  rw [exec_jrun, h]
  rfl

theorem reportRun_of_none (h : mergeJobsOf s.jt id = []) : reportRun s id = s.setRes 0xffffffff 0 0 := by
  simp only [reportRun, h]

theorem reportRun_of_one {j : Nat} {e : JobEntry} (h : mergeJobsOf s.jt id = [(j, e)]) :
    reportRun s id = s.setRes (word j) e.pathId (word e.data.length) := by
  simp only [reportRun, h]

theorem jobsOf_eq_nil (h : ∀ j, isJobSlot s id j = false) : jobsOf s.jt id = [] :=
  List.eq_nil_iff_forall_not_mem.2 fun x hx => by simpa [isJobSlot_iff.2 ⟨x.2, hx⟩] using h x.1

theorem mergeJobsOf_eq_nil (h : ∀ j, isMergeSlot s id j = false) : mergeJobsOf s.jt id = [] :=
  List.eq_nil_iff_forall_not_mem.2 fun x hx => by simpa [isMergeSlot_iff.2 ⟨x.2, hx⟩] using h x.1

/-- An ascending list all of whose entries lie in one slot has one entry. -/
theorem eq_singleton_of_slots {l : List (Nat × JobEntry)} (hl : l.Pairwise fun a b => a.1 < b.1) {j : Nat} {e : JobEntry}
    (hj : (j, e) ∈ l) (hall : ∀ x ∈ l, x.1 = j) : l = [(j, e)] := by
  cases l with
  | nil => cases hj
  | cons x l =>
    cases l with
    | nil => rw [List.mem_singleton.1 hj]
    | cons y l =>
      have hlt := (List.pairwise_cons.1 hl).1 y (by simp)
      rw [hall x (by simp), hall y (by simp)] at hlt
      exact absurd hlt (lt_irrefl j)

theorem runTree_of_no_jobs {c : Cfg} {reduced : Bool} {w : JobWork} (h : jobsOf w.jt id = []) :
    runTree c reduced id w = mergeRounds c reduced id 64 w := by
  rw [runTree, h]
  rfl

/-- With no Job and at most one MergeJob nothing is left to do. -/
theorem exec_jrun_of_done (hjobs : jobsOf s.jt id = []) (hone : (mergeJobsOf s.jt id).length ≤ 1) :
    exec (.jrun id) s = .next (complete (reportRun s id)) :=
  exec_jrun_of_ok ((runTree_of_no_jobs (w := s.jobWork) hjobs).trans (mergeRounds_of_le_one (w := s.jobWork) 64 hone))

theorem exec_jrun_reports (hno : ∀ j, isJobSlot s id j = false) :
    ((∀ j, isMergeSlot s id j = false) → exec (.jrun id) s = .next (complete (s.setRes 0xffffffff 0 0))) ∧
    ∀ j e, s.jt[j]?.getD none = some e → (∀ j', isMergeSlot s id j' = true ↔ j' = j) →
      exec (.jrun id) s = .next (complete (s.setRes (word j) e.pathId (word e.data.length))) := by
  refine ⟨fun hnone => ?_, fun j e he hone => ?_⟩
  · have hnil := mergeJobsOf_eq_nil hnone
    rw [exec_jrun_of_done (jobsOf_eq_nil hno) (by simp [hnil]), reportRun_of_none hnil]
  · obtain ⟨x, hx⟩ := isMergeSlot_iff.1 ((hone j).2 rfl)
    cases he.symm.trans (mem_mergeJobsOf.1 hx).1
    have hlist := eq_singleton_of_slots (slotsWhere_pairwise _ _) hx fun y hy => (hone y.1).1 (isMergeSlot_iff.2 ⟨y.2, hy⟩)
    rw [exec_jrun_of_done (jobsOf_eq_nil hno) (by simp [mergeJobsOf, hlist]), reportRun_of_one hlist]

end

/-! The faults of a run -/

section
variable {s : State} {id : Word}

/-- The first Job whose vector is too long stops the run: the Jobs before it are transformed, and it is still there. -/
theorem exec_jrun_of_long_job {j : Nat} {e : JobEntry} (hj : isJobSlot s id j = true) (he : s.jt[j]?.getD none = some e)
    (hlong : s.cfg.maxLog < e.data.length.log2)
    (hfirst : ∀ j' e', j' < j → isJobSlot s id j' = true → s.jt[j']?.getD none = some e' → e'.data.length.log2 ≤ s.cfg.maxLog) :
    exec (.jrun id) s = .next (raise (trap .rootOrder e.data.length 0 0) s) := by
  obtain ⟨x, hx⟩ := isJobSlot_iff.1 hj
  obtain ⟨hslot, hkind, -⟩ := mem_jobsOf.1 hx
  cases he.symm.trans hslot
  obtain ⟨pre, post, hsplit⟩ := List.append_of_mem hx
  have hsorted := slotsWhere_pairwise s.jt fun e => e.kind == .job && e.jobId == id
  rw [show slotsWhere s.jt _ = pre ++ (j, e) :: post from hsplit, List.pairwise_append] at hsorted
  obtain ⟨hpre, -, hbefore⟩ := hsorted
  have hlt : ∀ k ∈ pre.map (·.1), k < j := by
    intro k hk
    obtain ⟨y, hy, rfl⟩ := List.mem_map.1 hk
    exact hbefore y hy (j, e) (by simp)
  have hnodup : (pre.map (·.1)).Nodup := (List.pairwise_map.2 hpre).imp fun h => Nat.ne_of_lt h
  obtain ⟨w', hw', hothers, -⟩ := fftLeaves_of_fit (c := s.cfg) (reduced := treeReduced s.cfg s.jt id) (pre.map (·.1))
    (w := s.jobWork) hnodup fun k hk => by
      obtain ⟨⟨k, y⟩, hy, rfl⟩ := List.mem_map.1 hk
      have hmem : (k, y) ∈ jobsOf s.jt id := hsplit ▸ List.mem_append_left _ hy
      obtain ⟨hyslot, hykind, -⟩ := mem_jobsOf.1 hmem
      exact ⟨y, hyslot, hykind, hfirst k y (hlt k hk) (isJobSlot_iff.2 ⟨y, hmem⟩) hyslot⟩
  have hw'j : w'.slot j = some e := (hothers j fun h => lt_irrefl _ (hlt j h)).trans he
  refine exec_jrun_of_error ?_
  rw [runTree, show jobsOf s.jobWork.jt id = pre ++ (j, e) :: post from hsplit, List.map_append, fftLeaves_append, hw',
    List.map_cons]
  have hstop : fftSlot s.cfg (treeReduced s.cfg s.jt id) j w' = .error (trap .rootOrder e.data.length 0 0) := by
    rw [fftSlot_of_job hw'j hkind, rootTrap, if_pos hlong]
    rfl
  simp only [Except.bind, fftLeaves, hstop]

/-- Of two mates' keys only the lengths may differ. -/
theorem pairMask_of_mates {i j : Nat} {a b : JobEntry} (hleast : LeastMates (mergeJobsOf s.jt id) i j)
    (ha : s.jt[i]?.getD none = some a) (hb : s.jt[j]?.getD none = some b) : pairMask a b =
      if a.data.length = b.data.length then 0 else 8 := by
  obtain ⟨a', b', ⟨ha', -, haid⟩, ⟨hb', -, hbid⟩, -, hpath, hside, -⟩ :=
    mergeSlots_of_mates (w := s.jobWork) (c := s.cfg) hleast.1
  cases ha.symm.trans ha'
  cases hb.symm.trans hb'
  rw [pairMask_eq, if_pos (haid.trans hbid.symm), if_pos hpath, if_neg hside]
  simp only [zero_add]

variable (hno : ∀ j, isJobSlot s id j = false)
include hno

theorem exec_jrun_of_no_pair (hpair : ∀ i j, ¬ isPair s id i j) (hlt : 1 < mergeCount s id) :
    exec (.jrun id) s = .next (raise (trap .noPair id.toNat (mergeCount s id) 0) s) := by
  rw [mergeCount_eq] at hlt ⊢
  exact exec_jrun_of_error ((runTree_of_no_jobs (w := s.jobWork) (jobsOf_eq_nil hno)).trans
    (mergeRounds_of_no_pair (w := s.jobWork) 63 hlt (findPair_of_no_pair hpair)))

variable {i j : Nat} {a b : JobEntry} (hleast : LeastMates (mergeJobsOf s.jt id) i j) (ha : s.jt[i]?.getD none = some a)
  (hb : s.jt[j]?.getD none = some b)
include hleast ha hb

/-- With no Job left the run begins with the merge of the least pair. -/
theorem runTree_of_pair (c : Cfg) (reduced : Bool) : runTree c reduced id s.jobWork =
    Except.bind ((mergeTrap c i j a b).elim (.ok (mergedWork c reduced i j a b s.jobWork)) .error)
      (mergeRounds c reduced id 63) := by
  obtain ⟨a', b', ha', hb', -, -, -, hmerge⟩ := mergeSlots_of_mates (w := s.jobWork) (c := c) hleast.1
  cases ha.symm.trans ha'.1
  cases hb.symm.trans hb'.1
  rw [runTree_of_no_jobs (w := s.jobWork) (jobsOf_eq_nil hno),
    mergeRounds_of_pair (w := s.jobWork) 63 (findPair_eq_some_iff.2 hleast), hmerge]

theorem exec_jrun_of_mergeTrap {t : Trap} (h : mergeTrap s.cfg i j a b = some t) :
    exec (.jrun id) s = .next (raise t s) := by
  refine exec_jrun_of_error ?_
  rw [runTree_of_pair hno hleast ha hb, h]
  rfl

end

/-! The first step decides -/

section
variable {c : Cfg} {jt : Vector (Option JobEntry) 64} {id : Word}

theorem treeReduced_iff : treeReduced c jt id = true ↔
    ∀ (j : Nat) (e : JobEntry), jt[j]?.getD none = some e → e.jobId = id → allReduced c e.data = true := by
  simp [treeReduced, List.all_eq_true, mem_slotsWhere]

theorem mergeEntries_allReduced (hc : c.WellFormed) {a b : JobEntry} (ha : allReduced c a.data = true)
    (hb : allReduced c b.data = true) : allReduced c (mergeEntries c a b).data = true := by
  simp only [mergeEntries]
  cases a.side
  · exact combine_allReduced hc _ ha
  · exact combine_allReduced hc _ hb

/-- A run on reduced entries keeps them reduced. -/
theorem runKeeps_treeReduced (hc : c.WellFormed) (id : Word) : RunKeeps c true id fun w => treeReduced c w.jt id = true where
  transform w j e hw he hid := by
    rw [treeReduced_iff] at hw ⊢
    intro k x hx hxid
    rw [← slot_eq, transformedWork_slot he] at hx
    split_ifs at hx
    · cases hx
      exact recFft_allReduced hc _ _ (hw j e he hid)
    · exact hw k x hx hxid
  merge w i j a b hw ha haid hb hbid _ := by
    rw [treeReduced_iff] at hw ⊢
    intro k x hx hxid
    rw [← slot_eq, mergedWork_slot ha] at hx
    split_ifs at hx
    · cases hx
      exact mergeEntries_allReduced hc (hw i a ha haid) (hw j b hb hbid)
    · exact hw k x hx hxid

end

/-- Equal faults of one state are equal faults of any. -/
theorem raise_eq_raise {tr tr' : Trap} {t : State} (h : raise tr t = raise tr' t) (s : State) : raise tr s = raise tr' s := by
  have hcause := congrArg (·.frec.cause) h
  have h0 := congrArg (·.frec.info0) h
  have h1 := congrArg (·.frec.info1) h
  have h2 := congrArg (·.frec.info2) h
  simp only [raise_frec_cause, raise_frec_info0, raise_frec_info1, raise_frec_info2] at hcause h0 h1 h2
  simp only [raise, hcause, h0, h1, h2]

theorem word_add_one_ne (v : Word) : v + 1 ≠ v := fun h => absurd (add_eq_left.1 h) (by decide)

/-- The report adds up to the same whether or not a step was completed before. -/
theorem reportRun_complete (s : State) (id : Word) (w1 w : JobWork) :
    { complete (reportRun ((complete (s.withJobWork w1)).withJobWork w) id) with cseq := s.cseq + 1 } =
      complete (reportRun (s.withJobWork w) id) := by
  unfold reportRun
  dsimp only [State.withJobWork_jt]
  split <;> rfl

/-- A run that goes on as the run from the state a step leads to, ends as that run. -/
theorem exec_jrun_of_step {s t : State} {w1 : JobWork} {id : Word} (ht : t = complete (s.withJobWork w1))
    (hrun : runTree s.cfg (treeReduced s.cfg s.jt id) id s.jobWork = runTree s.cfg (treeReduced s.cfg w1.jt id) id w1) :
    (∀ tr, exec (.jrun id) t = .next (raise tr t) → exec (.jrun id) s = .next (raise tr s)) ∧
    ∀ u, exec (.jrun id) t = .next u → u.cseq = t.cseq + 1 → exec (.jrun id) s = .next { u with cseq := s.cseq + 1 } := by
  have hlater : runTree t.cfg (treeReduced t.cfg t.jt id) id t.jobWork =
      runTree s.cfg (treeReduced s.cfg s.jt id) id s.jobWork := by
    rw [hrun, ht]
    rfl
  cases hr : runTree s.cfg (treeReduced s.cfg s.jt id) id s.jobWork with
  | error tr =>
    rw [hr] at hlater
    rw [exec_jrun_of_error hlater, exec_jrun_of_error hr]
    refine ⟨fun tr' h => ?_, fun u h hseq => ?_⟩
    · exact congrArg _ (raise_eq_raise (Host.Outcome.next.inj h) s)
    · cases h
      exact absurd hseq.symm (word_add_one_ne _)
  | ok w =>
    rw [hr] at hlater
    rw [exec_jrun_of_ok hlater, exec_jrun_of_ok hr]
    refine ⟨fun tr' h => ?_, fun u h hseq => ?_⟩
    · have hseq := congrArg State.cseq (Host.Outcome.next.inj h)
      have hreport : (reportRun (t.withJobWork w) id).cseq = t.cseq := by
        unfold reportRun
        split <;> rfl
      rw [complete_cseq, hreport] at hseq
      exact absurd hseq (word_add_one_ne _)
    · cases h
      rw [ht, reportRun_complete]

/-- The entries the first step of a run reads and writes are reduced. -/
theorem runTree_reduced_eq {s : State} {w1 : JobWork} {id : Word} (hs : treeReduced s.cfg s.jt id = true)
    (hw1 : treeReduced s.cfg w1.jt id = true)
    (hrun : runTree s.cfg true id s.jobWork = runTree s.cfg true id w1) :
    runTree s.cfg (treeReduced s.cfg s.jt id) id s.jobWork = runTree s.cfg (treeReduced s.cfg w1.jt id) id w1 := by
  rw [hs, hw1, hrun]

theorem completed_of_cseq {s t u : State} {o : Option Trap} (h : settle s (guarded o u) = .next t)
    (hseq : t.cseq = s.cseq + 1) : o = none ∧ t = complete u := by
  cases o with
  | none => exact ⟨rfl, (Host.Outcome.next.inj h).symm⟩
  | some tr =>
    cases h
    exact absurd hseq.symm (word_add_one_ne _)

theorem toNat_ofNat_slot {j : Nat} (h : j < 64) : (BitVec.ofNat 8 j).toNat = j := by
  rw [BitVec.toNat_ofNat]
  omega

section
variable {s : State} {id : Word}

/-- The least Job is the first of the list, and its transform takes it out of the list. -/
theorem jobsOf_after_transform {j : Nat} (hj : isJobSlot s id j = true) (hleast : ∀ j', j' < j → isJobSlot s id j' = false)
    {e : JobEntry} (he : s.jobWork.slot j = some e) (c : Cfg) (reduced : Bool) : (jobsOf s.jt id).map (·.1) =
      j :: (jobsOf (transformedWork c reduced j e s.jobWork).jt id).map (·.1) := by
  obtain ⟨x, hx⟩ := isJobSlot_iff.1 hj
  have hafter : (jobsOf (transformedWork c reduced j e s.jobWork).jt id).map (·.1) =
      ((jobsOf s.jt id).map (·.1)).filter (fun k => decide (k ≠ j)) := by
    rw [jobsOf, jobsOf, slotsWhere_map_fst, slotsWhere_map_fst, List.filter_filter]
    refine List.filter_congr fun k _ => ?_
    rw [← slot_eq, transformedWork_slot he]
    split_ifs with hk
    · simp [hk, jobTransform, opened]
    · simp [hk]
  have hsorted := List.pairwise_map.2 (slotsWhere_pairwise s.jt fun e => e.kind == .job && e.jobId == id)
  rw [hafter]
  cases hl : jobsOf s.jt id with
  | nil =>
    rw [hl] at hx
    cases hx
  | cons y l =>
    rw [show slotsWhere s.jt _ = y :: l from hl, List.map_cons, List.pairwise_cons] at hsorted
    have hy : y.1 = j := by
      rcases List.mem_cons.1 (hl ▸ hx) with heq | hmem
      · exact (congrArg Prod.fst heq).symm
      · have hlt := hsorted.1 j (List.mem_map_of_mem (f := Prod.fst) hmem)
        have hno := hleast _ hlt
        rw [isJobSlot_iff.2 ⟨y.2, hl ▸ List.mem_cons_self⟩] at hno
        cases hno
    subst hy
    rw [List.map_cons, List.filter_cons_of_neg (by simp), List.filter_eq_self.2]
    intro k hk
    simpa using (Nat.ne_of_lt (hsorted.1 k hk)).symm

/-- `JFFT` of the least Job decides the run. -/
theorem jrun_decided_by_jfft {j : Nat} (hj : isJobSlot s id j = true) (hleast : ∀ j', j' < j → isJobSlot s id j' = false)
    {t : State} (hc : s.cfg.WellFormed) (hr : treeReduced s.cfg s.jt id = true)
    (ht : exec (.jfft (BitVec.ofNat 8 j)) s = .next t) (hseq : t.cseq = s.cseq + 1) :
    ∃ w1, t = complete (s.withJobWork w1) ∧
      runTree s.cfg (treeReduced s.cfg s.jt id) id s.jobWork = runTree s.cfg (treeReduced s.cfg w1.jt id) id w1 := by
  obtain ⟨e, he⟩ := isJobSlot_iff.1 hj
  obtain ⟨hslot, hkind, hid⟩ := mem_jobsOf.1 he
  have hjob : s.getJob (BitVec.ofNat 8 j) = some e := by rw [getJob_eq, toNat_ofNat_slot (lt_of_slot_eq_some hslot), hslot]
  rw [exec_jfft_of_job hjob hkind, treeReduced_iff.1 hr j e hslot hid, toNat_ofNat_slot (lt_of_slot_eq_some hslot)] at ht
  obtain ⟨hroot, hcomplete⟩ := completed_of_cseq ht hseq
  refine ⟨transformedWork s.cfg true j e s.jobWork, hcomplete, runTree_reduced_eq hr
    ((runKeeps_treeReduced hc id).transform s.jobWork j e hr hslot hid) ?_⟩
  rw [runTree, show (jobsOf s.jobWork.jt id).map (·.1) = _ from jobsOf_after_transform hj hleast hslot s.cfg true, fftLeaves,
    fftSlot_of_fits (w := s.jobWork) hslot hkind (rootTrap_none hroot)]
  rfl

variable (hno : ∀ j, isJobSlot s id j = false) {i j : Nat} {a b : JobEntry} (ha : s.jt[i]?.getD none = some a)
include hno ha

theorem jobsOf_after_merge (c : Cfg) (reduced : Bool) : jobsOf (mergedWork c reduced i j a b s.jobWork).jt id = [] := by
  refine List.eq_nil_iff_forall_not_mem.2 fun ⟨k, x⟩ hx => ?_
  obtain ⟨hslot, hkind⟩ := mem_jobsOf.1 hx
  rw [← slot_eq, mergedWork_slot (w := s.jobWork) ha] at hslot
  split_ifs at hslot
  · cases hslot
    cases hkind.1
  · have hmem : (k, x) ∈ jobsOf s.jt id := mem_jobsOf.2 ⟨hslot, hkind⟩
    rw [jobsOf_eq_nil hno] at hmem
    cases hmem

variable (hleast : LeastMates (mergeJobsOf s.jt id) i j) (hb : s.jt[j]?.getD none = some b)
include hleast hb

/-- With no Job left `JMERGE` of the least pair decides the run: one round fewer is enough for what is left. -/
theorem jrun_decided_by_jmerge {t : State} (hc : s.cfg.WellFormed) (hr : treeReduced s.cfg s.jt id = true)
    (ht : exec (.jmerge (BitVec.ofNat 8 i) (BitVec.ofNat 8 j)) s = .next t) (hseq : t.cseq = s.cseq + 1) :
    ∃ w1, t = complete (s.withJobWork w1) ∧
      runTree s.cfg (treeReduced s.cfg s.jt id) id s.jobWork = runTree s.cfg (treeReduced s.cfg w1.jt id) id w1 := by
  obtain ⟨a', b', ⟨ha', hka, haid⟩, ⟨hb', hkb, hbid⟩, hij, -⟩ := mergeSlots_of_mates (w := s.jobWork) (c := s.cfg) hleast.1
  cases ha.symm.trans ha'
  cases hb.symm.trans hb'
  have hi := toNat_ofNat_slot (lt_of_slot_eq_some ha)
  have hj := toNat_ofNat_slot (lt_of_slot_eq_some hb)
  have hja : s.getJob (BitVec.ofNat 8 i) = some a := by rw [getJob_eq, hi, ha]
  have hjb : s.getJob (BitVec.ofNat 8 j) = some b := by rw [getJob_eq, hj, hb]
  rw [exec_jmerge_of_mergeJobs hja hka hjb hkb, treeReduced_iff.1 hr i a ha haid, treeReduced_iff.1 hr j b hb hbid,
    Bool.and_self, hi, hj] at ht
  obtain ⟨htrap, hcomplete⟩ := completed_of_cseq ht hseq
  have hmask : pairMask a b = 0 := by
    by_contra hne
    rw [mergeTrap_of_mask hne] at htrap
    cases htrap
  refine ⟨mergedWork s.cfg true i j a b s.jobWork, hcomplete, runTree_reduced_eq hr
    ((runKeeps_treeReduced hc id).merge s.jobWork i j a b hr ha haid hb hbid (pairMask_zero_length hmask)) ?_⟩
  have hlen := mergeJobsOf_mergedWork_length (w := s.jobWork) (c := s.cfg) (reduced := true) ⟨ha, hka, haid⟩ ⟨hb, hkb, hbid⟩
  have hle : (mergeJobsOf s.jobWork.jt id).length ≤ 64 := slotsWhere_length_le _ _
  rw [runTree_of_pair hno hleast ha hb, htrap, runTree_of_no_jobs (jobsOf_after_merge hno ha s.cfg true)]
  exact (mergeRounds_succ 63 (by omega)).symm

end

/-- Settles O53: the report, the first fault of the run, and the state its first step leads to. -/
theorem jobEntriesAreReadOut : Obligations.JobEntriesAreReadOut := by
  refine ⟨fun s js dst _ => exec_jst_and_jqry s js dst, fun s id hno => exec_jrun_reports hno, fun s id => ?_⟩
  refine ⟨fun j e hj he hlong hfirst => exec_jrun_of_long_job hj he hlong hfirst, fun j hj hleast t hc hr ht hseq => ?_,
    fun hno => ⟨fun hpair hlt => exec_jrun_of_no_pair hno hpair hlt, fun i j a b hp hl ha hb => ?_⟩⟩
  · obtain ⟨w1, hw1, hrun⟩ := jrun_decided_by_jfft hj hleast hc (treeReduced_iff.2 hr) ht hseq
    exact exec_jrun_of_step hw1 hrun
  · have hleast := leastMates_of_isPair hp hl
    have hmask := pairMask_of_mates hleast ha hb
    have hfault : ∀ {t : Trap}, _ := fun {t} => exec_jrun_of_mergeTrap (t := t) hno hleast ha hb
    refine ⟨fun hne => hfault ?_, fun heq hlong => hfault ?_, fun heq hfit hroot => hfault ?_,
      fun t hc hr ht hseq => ?_⟩
    · rw [if_neg hne] at hmask
      rw [mergeTrap_of_mask (by omega), hmask]
    · rw [if_pos heq] at hmask
      exact mergeTrap_of_too_long hmask hlong i j
    · rw [if_pos heq] at hmask
      rw [mergeTrap_of_fits hmask hfit, rootTrap, if_pos hroot]
    · obtain ⟨w1, hw1, hrun⟩ := jrun_decided_by_jmerge hno ha hleast hb hc (treeReduced_iff.2 hr) ht hseq
      exact exec_jrun_of_step hw1 hrun

end Sys2Proof.Proofs
end

section
/-! The slots and descriptors a command does not name are unchanged, and `RINIT` is set by root readers only (44_job_merge.md
R230; 45_polynomial.md R260; 10_state.md R37). -/

namespace Sys2Proof.Proofs

open Sys2Proof.Machine Sys2Proof.Laws

/-! Job slots -/

/-- The slots the command `i` may not write are as they were. -/
def JobsSpared (i : Instr) (s : State) (w : JobWork) : Prop :=
  ∀ j, j < 64 → writesJob i s j = false → w.slot j = s.jobWork.slot j

theorem jt_getElem_of_slot_eq {v w : JobWork} {j : Nat} (hj : j < 64) (h : w.slot j = v.slot j) : w.jt[j]? = v.jt[j]? := by
  simpa [JobWork.slot, hj] using h

@[simp] theorem reportRun_jt (s : State) (id : Word) : (reportRun s id).jt = s.jt := by
  unfold reportRun
  split <;> rfl

theorem slot_put_ne (w : JobWork) (reduced : Bool) {j k : Nat} (h : k ≠ j) (e : JobEntry) :
    (w.put reduced j e).slot k = w.slot k := by
  rw [slot_put, if_neg fun hk => h hk.1.symm]

theorem jobsSpared_put {i : Instr} {s : State} {js : JobIdx} (hi : ∀ j, writesJob i s j = false → j ≠ js.toNat)
    (reduced : Bool) (e : JobEntry) : JobsSpared i s (s.jobWork.put reduced js.toNat e) :=
  fun j _ hj => slot_put_ne _ reduced (hi j hj) e

theorem jobsSpared_setJob {i : Instr} {s : State} {js : JobIdx} (hi : ∀ j, writesJob i s j = false → j ≠ js.toNat) :
    JobsSpared i s (s.setJob js none).jobWork := fun j _ hj => by
  rw [show (s.setJob js none).jobWork.slot j = (s.jobWork.clear js.toNat).slot j from rfl, slot_clear, if_neg (hi j hj)]

theorem ne_of_beq_false {j k : Nat} (h : (j == k) = false) : j ≠ k := by simpa using h

/-- A run leaves the slots of other `job_id`s. -/
theorem runKeeps_others (c : Cfg) (reduced : Bool) (id : Word) (w0 : JobWork) :
    RunKeeps c reduced id fun w => ∀ k, (w0.slot k).map (·.jobId) ≠ some id → w.slot k = w0.slot k where
  transform w j e hw he hid k hk := by
    have hkj : k ≠ j := by
      rintro rfl
      rw [← hw k hk, he, Option.map_some, hid] at hk
      exact hk rfl
    rw [transformedWork_slot he, if_neg hkj]
    exact hw k hk
  merge w i j a b hw ha haid hb hbid _ k hk := by
    have hne : ∀ m x, w.slot m = some x → x.jobId = id → k ≠ m := by
      rintro m x hx hxid rfl
      rw [← hw k hk, hx, Option.map_some, hxid] at hk
      exact hk rfl
    rw [mergedWork_slot ha, if_neg (hne j b hb hbid), if_neg (hne i a ha haid)]
    exact hw k hk

theorem jobsSpared_runTree {s : State} {id : Word} {reduced : Bool} {w : JobWork}
    (h : runTree s.cfg reduced id s.jobWork = .ok w) : JobsSpared (.jrun id) s w := fun j _ hj =>
  (runKeeps_others s.cfg reduced id s.jobWork).runTree (fun _ _ => rfl) h j fun hid => by
    have hid : (s.jt[j]?.getD none).map (·.jobId) = some id := hid
    simp [writesJob, hid] at hj

/-- The bodies of the job commands leave the slots they do not name. -/
theorem bodyEnsures_jobsSpared {i : Instr} {s : State} (hi : touchesJobs i = true) :
    BodyEnsures i s fun u => JobsSpared i s u.jobWork := by
  cases i with
  | jnew js src len id => exact ⟨_, rfl, ensures_guarded fun _ => jobsSpared_put (fun _ => ne_of_beq_false) _ _⟩
  | jfork jd js target =>
    refine ⟨_, rfl, ?_⟩
    split
    · exact ensures_error _
    · next e he =>
      split
      · exact ensures_error _
      · refine ensures_guarded fun _ j _ hout => ?_
        have hrange : j < jd.toNat ∨ jd.toNat + 2 ^ (e.data.length.log2 - target.toNat.log2) ≤ j := by
          simp only [writesJob, he, Bool.and_eq_false_iff, decide_eq_false_iff_not] at hout
          omega
        refine congrArg (·.getD none) (putAll_jt_getElem _ j _ jd.toNat s.jobWork ?_)
        rwa [List.length_map, List.length_range]
  | jfft js =>
    refine ⟨_, rfl, ensures_map fun w hw => ?_⟩
    obtain ⟨e, -, -, -, rfl⟩ := fftSlot_eq_ok hw
    exact jobsSpared_put (fun _ => ne_of_beq_false) _ _
  | jmerge js jo =>
    refine ⟨_, rfl, ensures_map fun w hw j _ hout => ?_⟩
    obtain ⟨a, b, ha, -, -, -, rfl⟩ := mergeSlots_eq_ok hw
    obtain ⟨hjs, hjo⟩ : j ≠ js.toNat ∧ j ≠ jo.toNat := by simpa [writesJob] using hout
    exact (mergedWork_slot ha j).trans (by rw [if_neg hjo, if_neg hjs])
  | jrun id =>
    refine ⟨_, rfl, ensures_map fun w hw j hj hout => ?_⟩
    exact (congrArg (fun jt => jt[j]?.getD none) (reportRun_jt _ id)).trans (jobsSpared_runTree hw j hj hout)
  | jfree js => exact ⟨_, rfl, ensures_ok (jobsSpared_setJob fun _ => ne_of_beq_false)⟩
  | _ => cases hi

/-! Descriptors -/

/-- The descriptors the command `i` may not write are as they were. -/
def PolysSpared (i : Instr) (s u : State) : Prop := ∀ q : PolyIdx, writesPoly i q.toNat = false → u.getPoly q = s.getPoly q

namespace PolysSpared

variable {i : Instr} {s t u : State}

theorem trans (h : PolysSpared i s t) (k : PolysSpared i t u) : PolysSpared i s u := fun q hq => (k q hq).trans (h q hq)

theorem ne_of_writes {p q : PolyIdx} (hp : writesPoly i p.toNat = true) (hq : writesPoly i q.toNat = false) : q ≠ p := by
  rintro rfl
  rw [hp] at hq
  cases hq

theorem of_mapsPoly {p : PolyIdx} {f : Poly → Poly} (h : MapsPoly p f s u) (hp : writesPoly i p.toNat = true) :
    PolysSpared i s u := fun q hq => by rw [h.2, if_neg (ne_of_writes hp hq)]

theorem setPoly {p : PolyIdx} (hp : writesPoly i p.toNat = true) (s : State) (e : Option Poly) :
    PolysSpared i s (s.setPoly p e) := fun q hq => getPoly_setPoly_ne s p q e (ne_of_writes hp hq)

theorem newCoef {p : PolyIdx} (hp : writesPoly i p.toNat = true) (s : State) (reduced : Bool) (d : Nat) (v : List U256) :
    PolysSpared i s (s.newCoef p reduced d v) := setPoly hp s _

theorem newPoint {p : PolyIdx} (hp : writesPoly i p.toNat = true) (s : State) (reduced : Bool) (d : Nat) (v : List U256) :
    PolysSpared i s (s.newPoint p reduced d v) := setPoly hp s _

theorem extend {p : PolyIdx} (hp : writesPoly i p.toNat = true) (s : State) (d : Nat) (reduced : Bool) :
    PolysSpared i s (s.extend p d reduced) := of_mapsPoly (extend_mapsPoly s p d reduced) hp

theorem forceCoef {p : PolyIdx} (hp : writesPoly i p.toNat = true) (s : State) (reduced : Bool) :
    PolysSpared i s (s.forceCoef p reduced) := of_mapsPoly (forceCoef_mapsPoly s p reduced) hp

theorem forcePoint {p : PolyIdx} (hp : writesPoly i p.toNat = true) (s : State) (reduced : Bool) :
    PolysSpared i s (s.forcePoint p reduced) := of_mapsPoly (forcePoint_mapsPoly s p reduced) hp

theorem putElem (i : Instr) (s : State) (r : RegIdx) (reduced : Bool) (v : U256) : PolysSpared i s (s.putElem r reduced v) := by
  intro q _
  unfold State.putElem
  split <;> rfl

theorem putVec (i : Instr) (s : State) (addr : Nat) (reduced : Bool) (v : List U256) :
    PolysSpared i s (s.putVec addr reduced v) := fun _ _ => rfl

end PolysSpared

/-- The bodies of the polynomial commands leave the descriptors they do not name. -/
theorem bodyEnsures_polysSpared {i : Instr} {s : State} (hi : touchesPolys i = true) :
    BodyEnsures i s (PolysSpared i s) := by
  cases i with
  | pnew pd => exact ⟨_, rfl, ensures_guarded fun _ => .newCoef (beq_self_eq_true _) _ _ _ _⟩
  | pnewp pd => exact ⟨_, rfl, ensures_guarded fun _ => .newPoint (beq_self_eq_true _) _ _ _ _⟩
  | pext pd => exact ⟨_, rfl, ensures_onPoly fun _ _ => ensures_guarded fun _ => .extend (beq_self_eq_true _) _ _ _⟩
  | padd pd pa pb =>
    have hd : writesPoly (.padd pd pa pb) pd.toNat = true := by simp [writesPoly]
    have ha : writesPoly (.padd pd pa pb) pa.toNat = true := by simp [writesPoly]
    have hb : writesPoly (.padd pd pa pb) pb.toNat = true := by simp [writesPoly]
    exact ⟨_, rfl, ensures_onPoly fun _ _ => ensures_onPoly fun _ _ => ensures_guarded fun _ =>
      ((((PolysSpared.extend ha _ _ _).trans (.extend hb _ _ _)).trans (.forceCoef ha _ _)).trans (.forceCoef hb _ _)).trans
        (.newCoef hd _ _ _ _)⟩
  | pmul pd pa pb =>
    have hd : writesPoly (.pmul pd pa pb) pd.toNat = true := by simp [writesPoly]
    have ha : writesPoly (.pmul pd pa pb) pa.toNat = true := by simp [writesPoly]
    have hb : writesPoly (.pmul pd pa pb) pb.toNat = true := by simp [writesPoly]
    exact ⟨_, rfl, ensures_onPoly fun _ _ => ensures_onPoly fun _ _ => ensures_guarded fun _ =>
      ((((PolysSpared.extend ha _ _ _).trans (.extend hb _ _ _)).trans (.forcePoint ha _ _)).trans (.forcePoint hb _ _)).trans
        (.newPoint hd _ _ _ _)⟩
  | peval fd pa fx =>
    exact ⟨_, rfl, ensures_onPoly fun _ _ => ensures_guarded fun _ =>
      (PolysSpared.forceCoef (beq_self_eq_true _) _ _).trans (.putElem _ _ _ _ _)⟩
  | pcoef pd => exact ⟨_, rfl, ensures_onPoly fun _ _ => ensures_guarded fun _ => .forceCoef (beq_self_eq_true _) _ _⟩
  | ppoint pd => exact ⟨_, rfl, ensures_onPoly fun _ _ => ensures_guarded fun _ => .forcePoint (beq_self_eq_true _) _ _⟩
  | pstc pa dst =>
    exact ⟨_, rfl, ensures_onPoly fun _ _ => ensures_guarded fun _ =>
      (PolysSpared.forceCoef (beq_self_eq_true _) _ _).trans (.putVec _ _ _ _ _)⟩
  | pstp pa dst =>
    exact ⟨_, rfl, ensures_onPoly fun _ _ => ensures_guarded fun _ =>
      (PolysSpared.forcePoint (beq_self_eq_true _) _ _).trans (.putVec _ _ _ _ _)⟩
  | pfree pd => exact ⟨_, rfl, ensures_ok (.setPoly (beq_self_eq_true _) _ _)⟩
  | _ => cases hi

theorem pd_getElem_of_getPoly_eq {s u : State} {p : Nat} (hp : p < 8)
    (h : u.getPoly (BitVec.ofNat 8 p) = s.getPoly (BitVec.ofNat 8 p)) : u.pd[p]? = s.pd[p]? := by
  have hidx : (BitVec.ofNat 8 p).toNat = p := by rw [BitVec.toNat_ofNat]; omega
  simpa [State.getPoly, hidx, hp] using h

/-! `RINIT` -/

/-- `RINIT` is never cleared, and a command that reads no root leaves it. -/
def RootsMarked (i : Instr) (s u : State) : Prop :=
  (s.rinit = true → u.rinit = true) ∧ (mayReadRoots i = false → u.rinit = s.rinit)

theorem rootsMarked_of_eq {i : Instr} {s u : State} (h : u.rinit = s.rinit) : RootsMarked i s u :=
  ⟨fun hs => h.trans hs, fun _ => h⟩

/-- A root reader may set `RINIT`. -/
theorem rootsMarked_of_reader {i : Instr} {s u : State} (hi : mayReadRoots i = true) (h : s.rinit = true → u.rinit = true) :
    RootsMarked i s u :=
  ⟨h, fun hno => by rw [hi] at hno; cases hno⟩

@[simp] theorem putElem_rinit (s : State) (r : RegIdx) (reduced : Bool) (v : U256) :
    (s.putElem r reduced v).rinit = s.rinit := by
  unfold State.putElem
  split <;> rfl

@[simp] theorem reportRun_rinit (s : State) (id : Word) : (reportRun s id).rinit = s.rinit := by
  unfold reportRun
  split <;> rfl

theorem forceCoef_rinit {s : State} (p : PolyIdx) (reduced : Bool) (h : s.rinit = true) :
    (s.forceCoef p reduced).rinit = true := by
  unfold State.forceCoef
  split
  · exact h
  · split
    · exact h
    · rfl

theorem forcePoint_rinit {s : State} (p : PolyIdx) (reduced : Bool) (h : s.rinit = true) :
    (s.forcePoint p reduced).rinit = true := by
  unfold State.forcePoint
  split
  · exact h
  · split
    · exact h
    · rfl

theorem extend_rinit {s : State} (p : PolyIdx) (d : Nat) (reduced : Bool) (h : s.rinit = true) :
    (s.extend p d reduced).rinit = true := by
  unfold State.extend
  split
  · exact h
  · split
    · exact h
    · simp [h]

theorem putAll_rinit (reduced : Bool) : ∀ (es : List JobEntry) (j : Nat) (w : JobWork),
    (JobWork.putAll reduced j es w).rinit = w.rinit
  | [], _, _ => rfl
  | e :: es, j, w => putAll_rinit reduced es (j + 1) (w.put reduced j e)

theorem runKeeps_rinit (c : Cfg) (reduced : Bool) (id : Word) : RunKeeps c reduced id fun w => w.rinit = true where
  transform _ _ _ _ _ _ := rfl
  merge _ _ _ _ _ _ _ _ _ _ _ := rfl

theorem bodyEnsures_rootsMarked (i : Instr) (s : State) : BodyEnsures i s (RootsMarked i s) := by
  cases i with
  | nop => exact ⟨_, rfl, ensures_ok (rootsMarked_of_eq rfl)⟩
  | lde | ste => exact ⟨_, rfl, ensures_guarded fun _ => rootsMarked_of_eq rfl⟩
  | ldi | rdw | uclr | umov | uadd | usub | uneg | umul256 | umul512 | ueq | fzero | fone | frand | frands | feq | fisz | jfree
    | pfree =>
    refine ⟨_, rfl, ensures_ok ?_⟩
    exact rootsMarked_of_eq rfl
  | monpro | monadd | monsub | tomont | frommont | fsqr | fneg | finv | ftocan =>
    exact ⟨_, rfl, ensures_ok (rootsMarked_of_eq (putElem_rinit _ _ _ _))⟩
  | ffromcan fd fa =>
    refine ⟨_, rfl, ?_⟩
    split
    · exact ensures_ok (rootsMarked_of_eq rfl)
    · exact ensures_error _
  | froot | fftrec | fftr2 | fft4 | ifft =>
    exact ⟨_, rfl, ensures_guarded fun _ => rootsMarked_of_reader rfl fun _ => rfl⟩
  | jnew | pnew | pnewp => exact ⟨_, rfl, ensures_guarded fun _ => rootsMarked_of_eq rfl⟩
  | jfork jd js target =>
    refine ⟨_, rfl, ?_⟩
    split
    · exact ensures_error _
    · split
      · exact ensures_error _
      · exact ensures_guarded fun _ => rootsMarked_of_eq (putAll_rinit _ _ _ s.jobWork)
  | jfft js =>
    refine ⟨_, rfl, ensures_map fun w hw => rootsMarked_of_reader rfl fun _ => ?_⟩
    obtain ⟨e, -, -, -, rfl⟩ := fftSlot_eq_ok hw
    rfl
  | jmerge js jo =>
    refine ⟨_, rfl, ensures_map fun w hw => rootsMarked_of_reader rfl fun _ => ?_⟩
    obtain ⟨a, b, -, -, -, -, rfl⟩ := mergeSlots_eq_ok hw
    rfl
  | jfind id =>
    refine ⟨_, rfl, ?_⟩
    split
    · exact ensures_ok (rootsMarked_of_eq rfl)
    · split
      · exact ensures_error _
      · exact ensures_ok (rootsMarked_of_eq rfl)
  | jrun id =>
    refine ⟨_, rfl, ensures_map fun w hw => rootsMarked_of_reader rfl fun hs => ?_⟩
    exact (reportRun_rinit _ _).trans ((runKeeps_rinit _ _ id).runTree (w := s.jobWork) hs hw)
  | jst js dst =>
    refine ⟨_, rfl, ?_⟩
    split
    · exact ensures_error _
    · exact ensures_guarded fun _ => rootsMarked_of_eq rfl
  | jqry | pqry =>
    refine ⟨_, rfl, ensures_ok (rootsMarked_of_eq ?_)⟩
    split <;> rfl
  | pext =>
    exact ⟨_, rfl, ensures_onPoly fun _ _ => ensures_guarded fun _ => rootsMarked_of_reader rfl (extend_rinit _ _ _)⟩
  | padd =>
    exact ⟨_, rfl, ensures_onPoly fun _ _ => ensures_onPoly fun _ _ => ensures_guarded fun _ =>
      rootsMarked_of_reader rfl fun hs =>
        forceCoef_rinit _ _ (forceCoef_rinit _ _ (extend_rinit _ _ _ (extend_rinit _ _ _ hs)))⟩
  | pmul =>
    exact ⟨_, rfl, ensures_onPoly fun _ _ => ensures_onPoly fun _ _ => ensures_guarded fun _ =>
      rootsMarked_of_reader rfl fun hs =>
        forcePoint_rinit _ _ (forcePoint_rinit _ _ (extend_rinit _ _ _ (extend_rinit _ _ _ hs)))⟩
  | peval =>
    exact ⟨_, rfl, ensures_onPoly fun _ _ => ensures_guarded fun _ => rootsMarked_of_reader rfl fun hs =>
      (putElem_rinit _ _ _ _).trans (forceCoef_rinit _ _ hs)⟩
  | pcoef | pstc =>
    exact ⟨_, rfl, ensures_onPoly fun _ _ => ensures_guarded fun _ => rootsMarked_of_reader rfl (forceCoef_rinit _ _)⟩
  | ppoint | pstp =>
    exact ⟨_, rfl, ensures_onPoly fun _ _ => ensures_guarded fun _ => rootsMarked_of_reader rfl (forcePoint_rinit _ _)⟩

/-! Every command -/

theorem exec_jobs_spared {i : Instr} {s t : State} (h : exec i s = .next t) {j : Nat} (hj : j < 64)
    (hw : writesJob i s j = false) : t.jt[j]? = s.jt[j]? := by
  by_cases hi : touchesJobs i = true
  · rcases (bodyEnsures_jobsSpared hi).next_cases h with ⟨u, hu, rfl⟩ | ⟨tr, rfl⟩
    · exact jt_getElem_of_slot_eq (v := s.jobWork) (w := u.jobWork) hj (hu j hj hw)
    · rfl
  · rcases exec_cases h with ⟨u, hu, rfl⟩ | ⟨tr, rfl⟩
    · rw [complete_jt, hu.jt (by simpa using hi)]
    · rfl

theorem exec_polys_spared {i : Instr} {s t : State} (h : exec i s = .next t) {p : Nat} (hp : p < 8)
    (hw : writesPoly i p = false) : t.pd[p]? = s.pd[p]? := by
  by_cases hi : touchesPolys i = true
  · rcases (bodyEnsures_polysSpared hi).next_cases h with ⟨u, hu, rfl⟩ | ⟨tr, rfl⟩
    · have hidx : (BitVec.ofNat 8 p).toNat = p := by rw [BitVec.toNat_ofNat]; omega
      exact pd_getElem_of_getPoly_eq (u := u) hp (hu _ (by rw [hidx, hw]))
    · rfl
  · rcases exec_cases h with ⟨u, hu, rfl⟩ | ⟨tr, rfl⟩
    · rw [complete_pd, hu.pd (by simpa using hi)]
    · rfl

/-- Settles O20: a completed command wrote only the slots and descriptors it names, and a fault none. -/
theorem tableWriters : Obligations.TableWriters := by
  intro i s t _ h
  refine ⟨fun j hj hw => exec_jobs_spared h hj hw, fun p hp hw => exec_polys_spared h hp hw, ?_⟩
  rcases (bodyEnsures_rootsMarked i s).next_cases h with ⟨u, hu, rfl⟩ | ⟨tr, rfl⟩
  · exact hu
  · exact ⟨id, fun _ => rfl⟩

end Sys2Proof.Proofs
end

section
/-! `JRUN` on the leaves of a fork tree (44_job_merge.md R235, R241, R244, R245). A state of the run is described by the height, over
the leaves, of the node that covers each leaf; a merge joins two blocks of leaves of one height into one of the next. -/

namespace Sys2Proof.Proofs

open Sys2Proof.Machine Sys2Proof.Laws

/-! The nodes of the tree -/

/-- A fork tree of depth `t` over a root Job of length `2^k`, its leaves in consecutive slots from `jd` up. -/
structure ForkTree (c : Cfg) (e : JobEntry) (jd k t : Nat) : Prop where
  root : e.pathId = 0
  length : e.data.length = 2 ^ k
  order : k ≤ c.maxLog
  fits : 2 ^ k ≤ c.jMaxLen
  depth : t ≤ k
  slots : jd + 2 ^ t ≤ 64

theorem word_toNat {n : Nat} (h : n < 2 ^ 32) : (word n).toNat = n := by rw [word, BitVec.toNat_ofNat, Nat.mod_eq_of_lt h]

/-- The MergeJob of node `i` at depth `d`: the transform of what the fork put there. -/
def treeNode (c : Cfg) (e : JobEntry) (k d i : Nat) : JobEntry := jobTransform c (forkLeaf e d (2 ^ (k - d)) i)

section
variable {c : Cfg} {e : JobEntry} {jd k t : Nat}

@[simp] theorem treeNode_kind (d i : Nat) : (treeNode c e k d i).kind = .mergeJob := rfl

@[simp] theorem treeNode_jobId (d i : Nat) : (treeNode c e k d i).jobId = e.jobId := rfl

theorem treeNode_length (d i : Nat) : (treeNode c e k d i).data.length = 2 ^ (k - d) := by
  rw [treeNode, jobTransform_data (forkLeaf_length e d _ i), recFft_length c _ _ (forkLeaf_length e d _ i)]

variable (h : ForkTree c e jd k t)
include h

theorem ForkTree.width_le {d : Nat} (hd : d ≤ t) : 2 ^ d ≤ 64 := by
  have hpow := Nat.pow_le_pow_right two_pos hd
  have hslots := h.slots
  omega

theorem ForkTree.leaf_pathId (d g i : Nat) : (forkLeaf e d g i).pathId = word (2 ^ d - 1 + i) := by
  simp [forkLeaf, h.root]

/-- The tags of a node below the root, from its number. -/
theorem ForkTree.node_tags {d i : Nat} (hd : d + 1 ≤ t) (hi : i < 2 ^ (d + 1)) :
    (treeNode c e k (d + 1) i).pathId = word (2 ^ d - 1 + i / 2) ∧ (treeNode c e k (d + 1) i).side = decide (i % 2 = 1) := by
  have hw := h.width_le hd
  have hpos := Nat.one_le_two_pow (n := d)
  rw [pow_succ] at hw hi
  have htags : parentTags (forkLeaf e (d + 1) (2 ^ (k - (d + 1))) i).pathId =
      (word (2 ^ d - 1 + i / 2), decide (i % 2 = 1)) := by
    rw [h.leaf_pathId, pow_succ, show 2 ^ d * 2 - 1 + i = 2 * (2 ^ d - 1) + i + 1 by omega, parentTags_succ (by omega),
      show (2 * (2 ^ d - 1) + i) / 2 = 2 ^ d - 1 + i / 2 by omega, show (2 * (2 ^ d - 1) + i) % 2 = i % 2 by omega]
  exact ⟨congrArg Prod.fst htags, congrArg Prod.snd htags⟩

/-- Nodes below the root with one parent number and different sides are the two children of one node. -/
theorem ForkTree.siblings_of_mates {d d' i i' : Nat} (hd : d + 1 ≤ t) (hd' : d' + 1 ≤ t) (hi : i < 2 ^ (d + 1))
    (hi' : i' < 2 ^ (d' + 1)) (hm : isMate (treeNode c e k (d + 1) i) (treeNode c e k (d' + 1) i') = true) :
    d = d' ∧ i / 2 = i' / 2 ∧ i % 2 ≠ i' % 2 := by
  obtain ⟨hpath, hside⟩ := isMate_iff.1 hm
  obtain ⟨hp, hs⟩ := h.node_tags hd hi
  obtain ⟨hp', hs'⟩ := h.node_tags hd' hi'
  have hw := h.width_le hd
  have hw' := h.width_le hd'
  have hpos := Nat.one_le_two_pow (n := d)
  have hpos' := Nat.one_le_two_pow (n := d')
  rw [hp, hp'] at hpath
  rw [hs, hs'] at hside
  rw [pow_succ] at hi hi' hw hw'
  have hnum : 2 ^ d - 1 + i / 2 = 2 ^ d' - 1 + i' / 2 := by
    have hn := congrArg BitVec.toNat hpath
    simp only [word, BitVec.toNat_ofNat] at hn
    omega
  have heq : d = d' := by
    rcases Nat.lt_trichotomy d d' with hlt | heq | hlt
    · have hle := Nat.pow_le_pow_right two_pos hlt
      rw [pow_succ] at hle
      omega
    · exact heq
    · have hle := Nat.pow_le_pow_right two_pos hlt
      rw [pow_succ] at hle
      omega
  subst heq
  refine ⟨rfl, by omega, fun heq => hside (by rw [heq])⟩

/-- A fork of a leaf gives two leaves of the next depth. -/
theorem ForkTree.forkLeaf_forkLeaf {d i b : Nat} (hd : d + 1 ≤ t) (hi : i < 2 ^ d) (hb : b < 2) :
    forkLeaf (forkLeaf e d (2 ^ (k - d)) i) 1 (2 ^ (k - (d + 1))) b = forkLeaf e (d + 1) (2 ^ (k - (d + 1))) (2 * i + b) := by
  have hk := h.depth
  have hw := h.width_le hd
  have hpos := Nat.one_le_two_pow (n := d)
  rw [pow_succ] at hw
  have hpath : (forkLeaf (forkLeaf e d (2 ^ (k - d)) i) 1 (2 ^ (k - (d + 1))) b).pathId =
      (forkLeaf e (d + 1) (2 ^ (k - (d + 1))) (2 * i + b)).pathId := by
    rw [h.leaf_pathId, pow_succ]
    refine congrArg word ?_
    rw [h.leaf_pathId, word_toNat (by omega), pow_one]
    omega
  have hdata : ∀ u, u < 2 ^ (k - (d + 1)) → (forkLeaf e d (2 ^ (k - d)) i).data.getD (bitReverse 1 b + u * 2 ^ 1) 0 =
      e.data.getD (bitReverse (d + 1) (2 * i + b) + u * 2 ^ (d + 1)) 0 := by
    intro u hu
    have hhalf : 2 ^ (k - d) = 2 * 2 ^ (k - (d + 1)) := by
      rw [← pow_succ']
      congr 1
      omega
    have hrev : bitReverse 1 b = b := by simp [bitReverse, Nat.mod_eq_of_lt hb]
    have hrev' : bitReverse (d + 1) (2 * i + b) = b * 2 ^ d + bitReverse d i := by
      rw [bitReverse, show (2 * i + b) % 2 = b by omega, show (2 * i + b) / 2 = i by omega]
    rw [hrev, hrev', pow_one]
    refine (map_range_getD _ (by omega) 0).trans ?_
    congr 1
    ring
  exact congrArg₂ (fun p v => JobEntry.mk .job e.jobId p false v) hpath
    (List.map_congr_left fun u hu => hdata u (List.mem_range.1 hu))

/-- The children of a node merge to it. -/
theorem ForkTree.merge_children {d i : Nat} (hd : d + 1 ≤ t) (hi : i < 2 ^ d) :
    pairMask (treeNode c e k (d + 1) (2 * i)) (treeNode c e k (d + 1) (2 * i + 1)) = 0 ∧
    mergeEntries c (treeNode c e k (d + 1) (2 * i)) (treeNode c e k (d + 1) (2 * i + 1)) = treeNode c e k d i := by
  have hk := h.depth
  have hw := h.width_le (show d ≤ t by omega)
  have hpos := Nat.one_le_two_pow (n := d)
  have hlen : (forkLeaf e d (2 ^ (k - d)) i).data.length = 2 ^ (k - (d + 1) + 1) := by
    rw [forkLeaf_length]
    congr 1
    omega
  have hnum : 2 * (forkLeaf e d (2 ^ (k - d)) i).pathId.toNat + 2 < 2 ^ 32 := by
    rw [h.leaf_pathId, word_toNat (by omega)]
    omega
  have hmerge := mergeEntries_forkLeaf_one hlen c hnum
  rw [h.forkLeaf_forkLeaf hd hi two_pos, h.forkLeaf_forkLeaf hd hi one_lt_two] at hmerge
  exact ⟨hmerge.1, hmerge.2.1⟩

/-- A merge of two children passes the checks. -/
theorem ForkTree.mergeTrap_children {d i : Nat} (hd : d + 1 ≤ t) (hi : i < 2 ^ d) (js jo : Nat) :
    mergeTrap c js jo (treeNode c e k (d + 1) (2 * i)) (treeNode c e k (d + 1) (2 * i + 1)) = none := by
  have hk := h.depth
  have hlen : 2 * (treeNode c e k (d + 1) (2 * i)).data.length = 2 ^ (k - d) := by
    rw [treeNode_length, ← pow_succ']
    congr 1
    omega
  have hle : 2 ^ (k - d) ≤ 2 ^ k := Nat.pow_le_pow_right two_pos (by omega)
  rw [mergeTrap_of_fits (h.merge_children hd hi).1 (by rw [hlen]; exact hle.trans h.fits), hlen,
    rootTrap_of_pow (le_trans (by omega) h.order)]

/-- The root node holds the transform of the root vector. -/
theorem ForkTree.root_node : treeNode c e k 0 0 = ⟨.mergeJob, e.jobId, 0, false, recFft c k e.data⟩ := by
  have hdata : (forkLeaf e 0 (2 ^ (k - 0)) 0).data = e.data := by
    refine List.ext_getElem (by rw [forkLeaf_length, h.length, Nat.sub_zero]) fun u _ h2 => ?_
    rw [← List.getD_eq_getElem _ 0 h2]
    simp [forkLeaf, bitReverse]
  have hroot : (forkLeaf e 0 (2 ^ (k - 0)) 0).pathId = 0 := h.leaf_pathId 0 _ 0
  have hentry : treeNode c e k 0 0 = ⟨.mergeJob, e.jobId, (parentTags (forkLeaf e 0 (2 ^ (k - 0)) 0).pathId).1,
      (parentTags (forkLeaf e 0 (2 ^ (k - 0)) 0).pathId).2, (treeNode c e k 0 0).data⟩ := rfl
  rw [hentry, hroot, treeNode, jobTransform_data (forkLeaf_length e 0 _ 0), hdata]
  rfl

end

end Sys2Proof.Proofs
end

section
/-! The merge rounds of `JRUN` on a fork tree: the blocks of leaves the nodes of the table cover (44_job_merge.md R244, R245). -/

namespace Sys2Proof.Proofs

open Sys2Proof.Machine Sys2Proof.Laws

/-! Blocks of `2^n` numbers -/

theorem div_two_pow_succ (r n : Nat) : r / 2 ^ (n + 1) = r / 2 ^ n / 2 := by rw [pow_succ, Nat.div_div_eq_div_mul]

theorem div_two_pow_lt {r n t : Nat} (hr : r < 2 ^ t) (hn : n ≤ t) : r / 2 ^ n < 2 ^ (t - n) := by
  rw [Nat.div_lt_iff_lt_mul (by positivity), ← pow_add, Nat.sub_add_cancel hn]
  exact hr

/-- Numbers in one block lie in one block of every larger size. -/
theorem div_two_pow_eq_of_le {r r' m n : Nat} (hmn : m ≤ n) (h : r / 2 ^ m = r' / 2 ^ m) : r / 2 ^ n = r' / 2 ^ n := by
  obtain ⟨d, rfl⟩ := Nat.exists_eq_add_of_le hmn
  rw [pow_add, ← Nat.div_div_eq_div_mul, ← Nat.div_div_eq_div_mul, h]

/-- The first number of a block. -/
theorem mul_two_pow_div (m n : Nat) : m * 2 ^ n / 2 ^ n = m := Nat.mul_div_cancel m (by positivity)

theorem eq_mul_of_mod_eq_zero {r n : Nat} (h : r % 2 ^ n = 0) : r = r / 2 ^ n * 2 ^ n :=
  (Nat.div_mul_cancel (Nat.dvd_of_mod_eq_zero h)).symm

/-! Covers of the leaves -/

/-- The nodes in the table cover the leaves: leaf `r` lies below a node of height `height r`, whose leaves are a block of
`2^height r`, and which stands in the slot of the first of them; the block's other slots are empty. Slots outside the tree are
those of `w0`. -/
structure Cover (c : Cfg) (e : JobEntry) (jd k t : Nat) (w0 : JobWork) (height : Nat → Nat) (w : JobWork) : Prop where
  le : ∀ r, r < 2 ^ t → height r ≤ t
  block : ∀ r r', r < 2 ^ t → r' < 2 ^ t → r' / 2 ^ height r = r / 2 ^ height r → height r' = height r
  slot : ∀ r, r < 2 ^ t → w.slot (jd + r) =
    if r % 2 ^ height r = 0 then some (treeNode c e k (t - height r) (r / 2 ^ height r)) else none
  others : ∀ j, j < jd ∨ jd + 2 ^ t ≤ j → w.slot j = w0.slot j
  draws : w.draws = w0.draws
  rinit : w.rinit = true

section
variable {c : Cfg} {e : JobEntry} {jd k t : Nat} {w0 w : JobWork} {height : Nat → Nat}
  (h : Cover c e jd k t w0 height w)
  (hforeign : ∀ j x, j < jd ∨ jd + 2 ^ t ≤ j → w0.slot j = some x → x.jobId ≠ e.jobId)
include h

/-- The node of a block starts it. -/
theorem Cover.slot_start {r n : Nat} (hr : r < 2 ^ t) (hn : height r = n) (hstart : r % 2 ^ n = 0) :
    w.slot (jd + r) = some (treeNode c e k (t - n) (r / 2 ^ n)) := by
  rw [h.slot r hr, hn, if_pos hstart]

include hforeign

theorem Cover.mem_iff {j : Nat} {x : JobEntry} : (j, x) ∈ mergeJobsOf w.jt e.jobId ↔
    ∃ r, r < 2 ^ t ∧ j = jd + r ∧ r % 2 ^ height r = 0 ∧ x = treeNode c e k (t - height r) (r / 2 ^ height r) := by
  rw [mem_mergeJobsOf, ← slot_eq]
  constructor
  · rintro ⟨hslot, -, hid⟩
    by_cases hout : j < jd ∨ jd + 2 ^ t ≤ j
    · exact absurd hid (hforeign j x hout ((h.others j hout).symm.trans hslot))
    · obtain ⟨r, rfl⟩ := Nat.exists_eq_add_of_le (show jd ≤ j by omega)
      have hr : r < 2 ^ t := by omega
      rw [h.slot r hr] at hslot
      split_ifs at hslot with hstart
      exact ⟨r, hr, rfl, hstart, (Option.some.inj hslot).symm⟩
  · rintro ⟨r, hr, rfl, hstart, rfl⟩
    exact ⟨h.slot_start hr rfl hstart, rfl, rfl⟩

omit hforeign in
/-- A block of all leaves has its node in the first slot, and nothing else is left of the tree. -/
theorem Cover.start_of_full {r r' : Nat} (hr : r < 2 ^ t) (hr' : r' < 2 ^ t) (hfull : height r = t)
    (hstart : r' % 2 ^ height r' = 0) : height r' = t ∧ r' = 0 := by
  have hsame : height r' = t := hfull ▸ h.block r r' hr hr' (by rw [hfull, Nat.div_eq_of_lt hr, Nat.div_eq_of_lt hr'])
  rw [hsame, Nat.mod_eq_of_lt hr'] at hstart
  exact ⟨hsame, hstart⟩

variable (htree : ForkTree c e jd k t)
include htree

/-- Mates are the nodes of the two halves of one block. -/
theorem Cover.mates {i j : Nat} (hm : MatesAt (mergeJobsOf w.jt e.jobId) i j) : ∃ n m, n < t ∧ m < 2 ^ (t - (n + 1)) ∧
    i = jd + 2 * m * 2 ^ n ∧ j = jd + (2 * m + 1) * 2 ^ n ∧ height (2 * m * 2 ^ n) = n ∧ height ((2 * m + 1) * 2 ^ n) = n := by
  obtain ⟨a, b, ha, hb, hij, hmate⟩ := hm
  obtain ⟨r, hr, rfl, hstart, rfl⟩ := (h.mem_iff hforeign).1 ha
  obtain ⟨r', hr', rfl, hstart', rfl⟩ := (h.mem_iff hforeign).1 hb
  have hle := h.le r hr
  have hle' := h.le r' hr'
  have hlt : height r < t := by
    refine lt_of_le_of_ne hle fun hfull => ?_
    have h1 := (h.start_of_full hr hr' hfull hstart').2
    omega
  have hlt' : height r' < t := by
    refine lt_of_le_of_ne hle' fun hfull => ?_
    have h1 := (h.start_of_full hr' hr hfull hstart).2
    have h2 := (h.start_of_full hr' hr' hfull hstart').2
    omega
  have hi := div_two_pow_lt hr hle
  have hi' := div_two_pow_lt hr' hle'
  rw [show t - height r = t - (height r + 1) + 1 by omega] at hmate hi
  rw [show t - height r' = t - (height r' + 1) + 1 by omega] at hmate hi'
  obtain ⟨hdepth, hhalf, hparity⟩ := htree.siblings_of_mates (by omega) (by omega) hi hi' hmate
  have hheight : height r' = height r := by omega
  rw [eq_mul_of_mod_eq_zero hstart, eq_mul_of_mod_eq_zero hstart', hheight] at hij
  have horder : r / 2 ^ height r < r' / 2 ^ height r := lt_of_mul_lt_mul_right (Nat.add_lt_add_iff_left.1 hij) (Nat.zero_le _)
  rw [hheight] at hhalf hparity
  have hr0 : r / 2 ^ height r = 2 * (r / 2 ^ height r / 2) := by omega
  have hr1 : r' / 2 ^ height r = 2 * (r / 2 ^ height r / 2) + 1 := by omega
  have heq : r = 2 * (r / 2 ^ height r / 2) * 2 ^ height r := hr0 ▸ eq_mul_of_mod_eq_zero hstart
  have heq' : r' = (2 * (r / 2 ^ height r / 2) + 1) * 2 ^ height r := hr1 ▸ hheight ▸ eq_mul_of_mod_eq_zero hstart'
  refine ⟨height r, r / 2 ^ height r / 2, hlt, ?_, by rw [← heq], by rw [← heq'], by rw [← heq], by rw [← heq', hheight]⟩
  rw [pow_succ] at hi
  omega

end

/-! A merge joins two blocks -/

/-- The heights after block `m` of size `2^(n+1)` was joined. -/
def joined (height : Nat → Nat) (n m : Nat) (r : Nat) : Nat := if r / 2 ^ (n + 1) = m then n + 1 else height r

theorem joined_of_inside {height : Nat → Nat} {n m r : Nat} (hr : r / 2 ^ (n + 1) = m) : joined height n m r = n + 1 :=
  if_pos hr

theorem joined_of_outside {height : Nat → Nat} {n m r : Nat} (hr : r / 2 ^ (n + 1) ≠ m) : joined height n m r = height r :=
  if_neg hr

theorem double_mul_two_pow (m n : Nat) : 2 * m * 2 ^ n = m * 2 ^ (n + 1) := by rw [pow_succ]; ring

/-- The two halves of block `m` of size `2^(n+1)` are blocks of height `n`. -/
structure Halves (t : Nat) (height : Nat → Nat) (n m : Nat) : Prop where
  lt : n < t
  index : m < 2 ^ (t - (n + 1))
  even : height (2 * m * 2 ^ n) = n
  odd : height ((2 * m + 1) * 2 ^ n) = n

section
variable {c : Cfg} {e : JobEntry} {jd k t : Nat} {w0 w : JobWork} {height : Nat → Nat} {n m : Nat}

/-- The first leaves of the two halves are leaves. -/
theorem Halves.starts_lt (hh : Halves t height n m) : 2 * m * 2 ^ n < 2 ^ t ∧ (2 * m + 1) * 2 ^ n < 2 ^ t := by
  have hn := hh.lt
  have hm := hh.index
  have hsplit : 2 ^ t = 2 ^ (t - (n + 1)) * 2 * 2 ^ n := by rw [← pow_succ, ← pow_add]; congr 1; omega
  rw [hsplit]
  have hpos : 0 < 2 ^ n := by positivity
  exact ⟨Nat.mul_lt_mul_of_pos_right (by omega) hpos, Nat.mul_lt_mul_of_pos_right (by omega) hpos⟩

variable (hh : Halves t height n m) (h : Cover c e jd k t w0 height w)
include hh h

theorem Cover.height_inside {r : Nat} (hr : r < 2 ^ t) (hin : r / 2 ^ (n + 1) = m) : height r = n := by
  obtain ⟨hlt, hlt'⟩ := hh.starts_lt
  rw [div_two_pow_succ] at hin
  have hhalf : r / 2 ^ n = 2 * m ∨ r / 2 ^ n = 2 * m + 1 := by omega
  rcases hhalf with heq | heq
  · exact (h.block _ r hlt hr (by rw [hh.even, heq, mul_two_pow_div])).trans hh.even
  · exact (h.block _ r hlt' hr (by rw [hh.odd, heq, mul_two_pow_div])).trans hh.odd

theorem Cover.block_joined {r r' : Nat} (hr : r < 2 ^ t) (hr' : r' < 2 ^ t)
    (hsame : r' / 2 ^ joined height n m r = r / 2 ^ joined height n m r) : joined height n m r' = joined height n m r := by
  by_cases hin : r / 2 ^ (n + 1) = m
  · rw [joined_of_inside hin] at hsame ⊢
    exact joined_of_inside (hsame.trans hin)
  · rw [joined_of_outside hin] at hsame ⊢
    have hheight := h.block r r' hr hr' hsame
    refine (joined_of_outside fun hin' => hin ?_).trans hheight
    have hn : height r ≤ n + 1 := by rw [← hheight, h.height_inside hh hr' hin']; omega
    exact (div_two_pow_eq_of_le hn hsame).symm.trans hin'

/-- The merge of the nodes of two halves is the node of the block. -/
theorem Cover.join (htree : ForkTree c e jd k t) : Cover c e jd k t w0 (joined height n m)
    (mergedWork c true (jd + 2 * m * 2 ^ n) (jd + (2 * m + 1) * 2 ^ n) (treeNode c e k (t - n) (2 * m))
      (treeNode c e k (t - n) (2 * m + 1)) w) := by
  obtain ⟨hlt, hlt'⟩ := hh.starts_lt
  have hn := hh.lt
  have hpos : 0 < 2 ^ n := by positivity
  have hself : w.slot (jd + 2 * m * 2 ^ n) = some (treeNode c e k (t - n) (2 * m)) := by
    rw [h.slot_start hlt hh.even (Nat.mul_mod_left _ _), mul_two_pow_div]
  have hslots := mergedWork_slot (c := c) (reduced := true) (j := jd + (2 * m + 1) * 2 ^ n)
    (b := treeNode c e k (t - n) (2 * m + 1)) hself
  have hmerge : mergeEntries c (treeNode c e k (t - n) (2 * m)) (treeNode c e k (t - n) (2 * m + 1)) =
      treeNode c e k (t - (n + 1)) m := by
    rw [show t - n = t - (n + 1) + 1 by omega]
    exact (htree.merge_children (by omega) hh.index).2
  have hdiv : ∀ b, b < 2 → (2 * m + b) * 2 ^ n / 2 ^ (n + 1) = m := fun b hb => by
    rw [div_two_pow_succ, mul_two_pow_div]
    omega
  refine ⟨fun r hr => ?_, fun r r' hr hr' => h.block_joined hh hr hr', fun r hr => ?_, fun j hj => ?_, h.draws, rfl⟩
  · unfold joined
    split_ifs
    · omega
    · exact h.le r hr
  · rw [hslots, opened_true, hmerge]
    by_cases hin : r / 2 ^ (n + 1) = m
    · have hheight := h.height_inside hh hr hin
      rw [joined_of_inside hin, hin]
      have hsplit := Nat.div_add_mod r (2 ^ (n + 1))
      rw [hin] at hsplit
      by_cases hodd : r = (2 * m + 1) * 2 ^ n
      · have hmod : r % 2 ^ (n + 1) ≠ 0 := by
          rw [hodd, Nat.add_mul, one_mul, double_mul_two_pow, Nat.mul_add_mod_self_right, pow_succ, Nat.mod_eq_of_lt] <;> omega
        rw [if_pos (by rw [hodd]), if_neg hmod]
      · rw [if_neg (by omega)]
        by_cases heven : r = 2 * m * 2 ^ n
        · rw [if_pos (by rw [heven]), if_pos (by rw [heven, double_mul_two_pow, Nat.mul_mod_left])]
        · have hmod : r % 2 ^ n ≠ 0 := by
            intro hzero
            have hr0 := eq_mul_of_mod_eq_zero hzero
            rw [div_two_pow_succ] at hin
            have hhalf : r / 2 ^ n = 2 * m ∨ r / 2 ^ n = 2 * m + 1 := by omega
            rcases hhalf with heq | heq
            · exact heven (heq ▸ hr0)
            · exact hodd (heq ▸ hr0)
          have hmod' : r % 2 ^ (n + 1) ≠ 0 := fun hzero =>
            hmod (Nat.mod_eq_zero_of_dvd ((Nat.pow_dvd_pow 2 (Nat.le_succ n)).trans (Nat.dvd_of_mod_eq_zero hzero)))
          rw [if_neg (by omega), h.slot r hr, hheight, if_neg hmod, if_neg hmod']
    · have hodd : r ≠ (2 * m + 1) * 2 ^ n := fun heq => hin (heq ▸ hdiv 1 one_lt_two)
      have heven : r ≠ 2 * m * 2 ^ n := fun heq => hin (heq ▸ hdiv 0 two_pos)
      rw [joined_of_outside hin, if_neg (by omega), if_neg (by omega), h.slot r hr]
  · rw [hslots, if_neg (by omega), if_neg (by omega), h.others j hj]

end

/-! The rounds -/

section
variable {c : Cfg} {e : JobEntry} {jd k t : Nat} {w0 w : JobWork} {height : Nat → Nat}
  (h : Cover c e jd k t w0 height w)
include h

/-- Where a block is not all of the tree, the two halves of some block can be joined: a block of least height has its
neighbour. -/
theorem Cover.exists_halves (hopen : ∃ r, r < 2 ^ t ∧ height r ≠ t) : ∃ n m, Halves t height n m := by
  obtain ⟨r1, hr1, hne⟩ := hopen
  obtain ⟨r0, hr0, hmin⟩ := Finset.exists_min_image (Finset.range (2 ^ t)) height ⟨r1, Finset.mem_range.2 hr1⟩
  have hr0 := Finset.mem_range.1 hr0
  have hlt : height r0 < t := lt_of_le_of_lt (hmin r1 (Finset.mem_range.2 hr1)) (lt_of_le_of_ne (h.le r1 hr1) hne)
  have hin : ∀ r, r < 2 ^ t → r / 2 ^ (height r0 + 1) = r0 / 2 ^ (height r0 + 1) → height r = height r0 := by
    intro r hr hsame
    have hge := hmin r (Finset.mem_range.2 hr)
    by_contra hne
    have hblock := h.block r r0 hr hr0 (div_two_pow_eq_of_le (show height r0 + 1 ≤ height r by omega) hsame).symm
    exact hne hblock.symm
  have hindex := div_two_pow_lt hr0 (show height r0 + 1 ≤ t by omega)
  have hdiv : ∀ b, b < 2 → (2 * (r0 / 2 ^ (height r0 + 1)) + b) * 2 ^ height r0 / 2 ^ (height r0 + 1) =
      r0 / 2 ^ (height r0 + 1) := fun b hb => by
    rw [div_two_pow_succ _ (height r0), mul_two_pow_div]
    omega
  have hsplit : 2 ^ t = 2 ^ (t - (height r0 + 1)) * 2 * 2 ^ height r0 := by
    rw [← pow_succ, ← pow_add]
    congr 1
    omega
  have hleaf : ∀ b, b < 2 → (2 * (r0 / 2 ^ (height r0 + 1)) + b) * 2 ^ height r0 < 2 ^ t := fun b hb => by
    rw [hsplit]
    exact Nat.mul_lt_mul_of_pos_right (by omega) (by positivity)
  exact ⟨height r0, r0 / 2 ^ (height r0 + 1), hlt, hindex, hin _ (hleaf 0 two_pos) (hdiv 0 two_pos),
    hin _ (hleaf 1 one_lt_two) (hdiv 1 one_lt_two)⟩

variable (hforeign : ∀ j x, j < jd ∨ jd + 2 ^ t ≤ j → w0.slot j = some x → x.jobId ≠ e.jobId)
include hforeign

/-- The nodes of two halves are mates. -/
theorem Cover.matesAt_halves (htree : ForkTree c e jd k t) {n m : Nat} (hh : Halves t height n m) :
    MatesAt (mergeJobsOf w.jt e.jobId) (jd + 2 * m * 2 ^ n) (jd + (2 * m + 1) * 2 ^ n) := by
  obtain ⟨hlt, hlt'⟩ := hh.starts_lt
  have hn := hh.lt
  have hm := hh.index
  have hpos : 0 < 2 ^ n := by positivity
  refine ⟨_, _, (h.mem_iff hforeign).2 ⟨_, hlt, rfl, by rw [hh.even, Nat.mul_mod_left], rfl⟩,
    (h.mem_iff hforeign).2 ⟨_, hlt', rfl, by rw [hh.odd, Nat.mul_mod_left], rfl⟩, ?_, ?_⟩
  · rw [Nat.add_mul, one_mul]
    omega
  · rw [hh.even, hh.odd, mul_two_pow_div, mul_two_pow_div, show t - n = t - (n + 1) + 1 by omega]
    have hd : t - (n + 1) + 1 ≤ t := by omega
    obtain ⟨hp, hs⟩ := htree.node_tags hd (i := 2 * m) (by rw [pow_succ]; omega)
    obtain ⟨hp', hs'⟩ := htree.node_tags hd (i := 2 * m + 1) (by rw [pow_succ]; omega)
    rw [isMate_iff, hp, hp', hs, hs', show (2 * m + 1) / 2 = 2 * m / 2 by omega, show (2 * m + 1) % 2 = 1 by omega,
      show 2 * m % 2 = 0 by omega]
    exact ⟨rfl, by decide⟩

/-- When one block is all of the tree, its node is the one MergeJob left. -/
theorem Cover.mergeJobsOf_of_full (hfull : ∀ r, r < 2 ^ t → height r = t) :
    mergeJobsOf w.jt e.jobId = [(jd, treeNode c e k 0 0)] := by
  have hpos : 0 < 2 ^ t := by positivity
  refine eq_singleton_of_slots (slotsWhere_pairwise _ _) ((h.mem_iff hforeign).2 ⟨0, hpos, rfl, Nat.zero_mod _, ?_⟩) ?_
  · rw [hfull 0 hpos, Nat.sub_self, Nat.zero_div]
  · rintro ⟨j, x⟩ hx
    obtain ⟨r, hr, rfl, hstart, -⟩ := (h.mem_iff hforeign).1 hx
    rw [hfull r hr, Nat.mod_eq_of_lt hr] at hstart
    rw [hstart]
    rfl

end

section
variable {c : Cfg} {e : JobEntry} {jd k t : Nat} {w0 w : JobWork} {height : Nat → Nat} (htree : ForkTree c e jd k t)
  (hforeign : ∀ j x, j < jd ∨ jd + 2 ^ t ≤ j → w0.slot j = some x → x.jobId ≠ e.jobId)
include htree hforeign

/-- While no block is all of the tree there is a least pair, and its merge joins two blocks. -/
theorem Cover.exists_step (h : Cover c e jd k t w0 height w) (hopen : ∃ r, r < 2 ^ t ∧ height r ≠ t) :
    ∃ i j w' height', findPair (mergeJobsOf w.jt e.jobId) = some (i, j) ∧ mergeSlots c true i j w = .ok w' ∧
      Cover c e jd k t w0 height' w' ∧ (mergeJobsOf w'.jt e.jobId).length < (mergeJobsOf w.jt e.jobId).length := by
  obtain ⟨n, m, hsome⟩ := h.exists_halves hopen
  have hmates := h.matesAt_halves hforeign htree hsome
  cases hf : findPair (mergeJobsOf w.jt e.jobId) with
  | none => exact absurd hmates (findPair_eq_none_iff.1 hf _ _)
  | some p =>
    obtain ⟨i, j⟩ := p
    have hpair := (findPair_eq_some_iff.1 hf).1
    obtain ⟨n, m, hn, hm, rfl, rfl, heven, hodd⟩ := h.mates hforeign htree hpair
    have hh : Halves t height n m := ⟨hn, hm, heven, hodd⟩
    obtain ⟨a, b, ha, hb, -, -, -, hmerge⟩ := mergeSlots_of_mates (c := c) hpair
    obtain ⟨hlt, hlt'⟩ := hh.starts_lt
    have ha' := h.slot_start hlt heven (Nat.mul_mod_left _ _)
    have hb' := h.slot_start hlt' hodd (Nat.mul_mod_left _ _)
    rw [mul_two_pow_div] at ha' hb'
    cases ha.1.symm.trans ha'
    cases hb.1.symm.trans hb'
    have htrap := htree.mergeTrap_children (d := t - (n + 1)) (by omega) hm (jd + 2 * m * 2 ^ n)
      (jd + (2 * m + 1) * 2 ^ n)
    rw [show t - (n + 1) + 1 = t - n by omega] at htrap
    exact ⟨_, _, _, _, rfl, by rw [hmerge, htrap]; rfl, h.join hh htree, mergeJobsOf_mergedWork_length ha hb⟩

/-- The rounds join blocks until one is all of the tree. -/
theorem Cover.mergeRounds : ∀ (rounds : Nat) {w : JobWork} {height : Nat → Nat}, Cover c e jd k t w0 height w →
    (mergeJobsOf w.jt e.jobId).length ≤ rounds + 1 →
    ∃ w' height', Machine.mergeRounds c true e.jobId rounds w = .ok w' ∧ Cover c e jd k t w0 height' w' ∧
      ∀ r, r < 2 ^ t → height' r = t
  | rounds, w, height, h, hlen => by
    by_cases hfull : ∀ r, r < 2 ^ t → height r = t
    · have hone := h.mergeJobsOf_of_full hforeign hfull
      exact ⟨w, height, mergeRounds_of_le_one rounds (by simp [hone]), h, hfull⟩
    · obtain ⟨i, j, w', height', hf, hmerge, h', hless⟩ := h.exists_step htree hforeign (by simpa using hfull)
      have hmany := (findPair_eq_some_iff.1 hf).1.one_lt_length
      cases rounds with
      | zero => omega
      | succ rounds =>
        rw [mergeRounds_of_pair rounds hf, hmerge]
        exact Cover.mergeRounds rounds h' (by omega)

end

/-! The whole run -/

section
variable {c : Cfg} {e : JobEntry} {jd k t : Nat} {w0 : JobWork} (htree : ForkTree c e jd k t)
  (hleaves : ∀ i, i < 2 ^ t → w0.slot (jd + i) = some (forkLeaf e t (2 ^ (k - t)) i))
  (hforeign : ∀ j x, j < jd ∨ jd + 2 ^ t ≤ j → w0.slot j = some x → x.jobId ≠ e.jobId)
include hleaves hforeign

/-- The entries of the `job_id` are the leaves. -/
theorem leaf_of_entry {j : Nat} {x : JobEntry} (hx : w0.slot j = some x) (hid : x.jobId = e.jobId) :
    ∃ i, i < 2 ^ t ∧ j = jd + i ∧ x = forkLeaf e t (2 ^ (k - t)) i := by
  by_cases hout : j < jd ∨ jd + 2 ^ t ≤ j
  · exact absurd hid (hforeign j x hout hx)
  · obtain ⟨i, rfl⟩ := Nat.exists_eq_add_of_le (show jd ≤ j by omega)
    have hi : i < 2 ^ t := by omega
    rw [hleaves i hi] at hx
    exact ⟨i, hi, rfl, (Option.some.inj hx).symm⟩

theorem treeReduced_leaves (hc : c.WellFormed) (hr : allReduced c e.data = true) : treeReduced c w0.jt e.jobId = true := by
  refine treeReduced_iff.2 fun j x hx hid => ?_
  obtain ⟨i, -, -, rfl⟩ := leaf_of_entry hleaves hforeign hx hid
  rw [allReduced_iff]
  intro v hv
  obtain ⟨u, -, rfl⟩ := List.mem_map.1 hv
  exact allReduced_getD hc hr _

include htree

/-- The transforms of the leaves cover them, each its own. -/
theorem exists_leaf_cover : ∃ w, fftLeaves c true ((jobsOf w0.jt e.jobId).map (·.1)) w0 = .ok w ∧
    Cover c e jd k t w0 (fun _ => 0) w := by
  have hmem : ∀ j, j ∈ (jobsOf w0.jt e.jobId).map (·.1) ↔ ∃ i, i < 2 ^ t ∧ j = jd + i := by
    intro j
    constructor
    · intro hj
      obtain ⟨⟨j, x⟩, hx, rfl⟩ := List.mem_map.1 hj
      obtain ⟨hslot, -, hid⟩ := mem_jobsOf.1 hx
      obtain ⟨i, hi, rfl, -⟩ := leaf_of_entry hleaves hforeign hslot hid
      exact ⟨i, hi, rfl⟩
    · rintro ⟨i, hi, rfl⟩
      exact List.mem_map_of_mem (f := Prod.fst) (mem_jobsOf.2 ⟨hleaves i hi, rfl, rfl⟩)
  have hnodup : ((jobsOf w0.jt e.jobId).map (·.1)).Nodup :=
    (List.pairwise_map.2 (slotsWhere_pairwise _ _)).imp fun h => Nat.ne_of_lt h
  have horder := htree.order
  obtain ⟨w, hw, hothers, hroots, hdone⟩ := fftLeaves_of_fit (c := c) (reduced := true) _ (w := w0) hnodup fun j hj => by
    obtain ⟨i, hi, rfl⟩ := (hmem j).1 hj
    exact ⟨_, hleaves i hi, rfl, by rw [forkLeaf_length, Nat.log2_two_pow]; omega⟩
  obtain ⟨hdraws, hdone⟩ := hdone rfl
  have hpos : 0 < 2 ^ t := by positivity
  refine ⟨w, hw, fun r _ => Nat.zero_le t, fun _ _ _ _ _ => rfl, fun r hr => ?_, fun j hj => hothers j fun hin => ?_, hdraws,
    hroots (List.ne_nil_of_mem ((hmem _).2 ⟨0, hpos, rfl⟩))⟩
  · rw [hdone _ ((hmem _).2 ⟨r, hr, rfl⟩) _ (hleaves r hr), pow_zero, Nat.mod_one, if_pos rfl, Nat.div_one]
    rfl
  · obtain ⟨i, hi, rfl⟩ := (hmem j).1 hin
    omega

/-- The run leaves one block, all of the tree. -/
theorem runTree_leaves : ∃ w height, runTree c true e.jobId w0 = .ok w ∧ Cover c e jd k t w0 height w ∧
    ∀ r, r < 2 ^ t → height r = t := by
  obtain ⟨w, hw, hcover⟩ := exists_leaf_cover htree hleaves hforeign
  obtain ⟨w', height, hw', h, hfull⟩ := hcover.mergeRounds htree hforeign 64 ((slotsWhere_length_le _ _).trans (by omega))
  exact ⟨w', height, by rw [runTree, hw]; exact hw', h, hfull⟩

end

theorem jt_getElem_of_slot {w : JobWork} {j : Nat} (hj : j < 64) {x : Option JobEntry} (h : w.slot j = x) :
    w.jt[j]? = some x := by
  rw [← h]
  simp [JobWork.slot, hj]

/-- Settles O35: the transforms of the leaves are joined block by block, and the root node holds the transform. -/
theorem jrunOnAForkTreeGivesTheTransform : Obligations.JrunOnAForkTreeGivesTheTransform := by
  intro s e jd k t hc _ hroot hlen hk hfit ht hslots hr hleaf hother
  have htree : ForkTree s.cfg e jd k t := ⟨hroot, hlen, hk, hfit, ht, hslots⟩
  have hleaves : ∀ i, i < 2 ^ t → s.jobWork.slot (jd + i) = some (forkLeaf e t (2 ^ (k - t)) i) := fun i hi => by
    rw [jobWork_slot, hleaf i hi, Option.getD_some]
  have hforeign : ∀ j x, j < jd ∨ jd + 2 ^ t ≤ j → s.jobWork.slot j = some x → x.jobId ≠ e.jobId := fun j x hj hx =>
    hother j x hj (jt_getElem_of_slot (slot_lt hx) hx)
  obtain ⟨w, height, hrun, h, hfull⟩ := runTree_leaves htree hleaves hforeign
  have hpos : 0 < 2 ^ t := by positivity
  have hnode := htree.root_node
  rw [recFft_eq_dft hc hr hk hlen] at hnode
  have hone := h.mergeJobsOf_of_full hforeign hfull
  rw [hnode] at hone
  rw [← treeReduced_leaves hleaves hforeign hc hr] at hrun
  refine ⟨w.jt, ?_, ?_, fun i hi0 hi => ?_, fun j hj => ?_⟩
  · rw [exec_jrun_of_ok hrun, reportRun_of_one (s := s.withJobWork w) hone]
    simp only [complete, State.setRes, State.withJobWork, h.draws, h.rinit, dft_length]
    rfl
  · refine jt_getElem_of_slot (by omega) ?_
    have hslot := h.slot_start hpos (hfull 0 hpos) (Nat.zero_mod _)
    rwa [Nat.zero_div, Nat.sub_self, hnode, Nat.add_zero] at hslot
  · refine jt_getElem_of_slot (by omega) ?_
    rw [h.slot i hi, hfull i hi, Nat.mod_eq_of_lt hi, if_neg (by omega)]
  · by_cases hlt : j < 64
    · exact jt_getElem_of_slot_eq (v := s.jobWork) hlt (h.others j hj)
    · rw [Vector.getElem?_eq_none (by omega), Vector.getElem?_eq_none (by omega)]

end Sys2Proof.Proofs
end

section
/-! Element, transform and Job commands with an unreduced operand: they complete, and write free values
(93_implementation_defined.md U1). -/

namespace Sys2Proof.Proofs

open Sys2Proof.Machine Sys2Proof.Laws

/-! Free values -/

theorem openVec_false (v : List U256) (n : Nat) : openVec false v n = (freeVec n v.length, n + v.length) := rfl

@[simp] theorem freeVec_length (n len : Nat) : (freeVec n len).length = len := by simp [freeVec]

theorem isReduced_of_ge {c : Cfg} {v : U256} (h : c.n.toNat ≤ v.toNat) : isReduced c v = false :=
  decide_eq_false (Nat.not_lt.2 h)

/-- Opening a vector of an unreduced operand leaves nothing of it but its length. -/
theorem opened_false {e : JobEntry} {len : Nat} (h : e.data.length = len) (n : Nat) :
    opened false n e = { e with data := freeVec n len } := by
  rw [opened, openVec_false, h]

/-! Element commands (R150, R186) -/

section
variable {s : State} {fd fa fb : RegIdx}

/-- The state after an element command wrote one free value. -/
def openedElem (s : State) (fd : RegIdx) : State := (s.setF fd (Config.anyElement s.draws)).drawn 1

theorem putElem_false (s : State) (r : RegIdx) (v : U256) : s.putElem r false v = openedElem s r := rfl

theorem binaryElem_of_unreduced (h : s.cfg.n.toNat ≤ (s.getF fa).toNat ∨ s.cfg.n.toNat ≤ (s.getF fb).toNat)
    (op : Cfg → U256 → U256 → U256) : binaryElem op fd fa fb s = openedElem s fd := by
  have hr : (isReduced s.cfg (s.getF fa) && isReduced s.cfg (s.getF fb)) = false := by
    rcases h with h | h <;> simp [isReduced_of_ge h]
  rw [binaryElem, hr, putElem_false]

theorem unaryElem_of_unreduced (h : s.cfg.n.toNat ≤ (s.getF fa).toNat) (op : Cfg → U256 → U256) :
    unaryElem op fd fa s = openedElem s fd := by
  rw [unaryElem, isReduced_of_ge h, putElem_false]

theorem settle_openedElem {u : State} (h : u = openedElem s fd) : settle s (.ok u) = .next (complete (openedElem s fd)) := by
  rw [h, settle_ok]

theorem exec_binary_of_unreduced (h : s.cfg.n.toNat ≤ (s.getF fa).toNat ∨ s.cfg.n.toNat ≤ (s.getF fb).toNat) :
    exec (.monpro fd fa fb) s = .next (complete (openedElem s fd)) ∧
    exec (.monadd fd fa fb) s = .next (complete (openedElem s fd)) ∧
    exec (.monsub fd fa fb) s = .next (complete (openedElem s fd)) :=
  ⟨settle_openedElem (binaryElem_of_unreduced h _), settle_openedElem (binaryElem_of_unreduced h _),
    settle_openedElem (binaryElem_of_unreduced h _)⟩

theorem exec_unary_of_unreduced (h : s.cfg.n.toNat ≤ (s.getF fa).toNat) :
    exec (.tomont fd fa) s = .next (complete (openedElem s fd)) ∧
    exec (.frommont fd fa) s = .next (complete (openedElem s fd)) ∧
    exec (.fsqr fd fa) s = .next (complete (openedElem s fd)) ∧
    exec (.fneg fd fa) s = .next (complete (openedElem s fd)) ∧
    exec (.finv fd fa) s = .next (complete (openedElem s fd)) ∧
    exec (.ftocan fd fa) s = .next (complete (openedElem s fd)) :=
  have hopen := fun op => settle_openedElem (unaryElem_of_unreduced (fd := fd) h op)
  ⟨hopen _, hopen _, hopen _, hopen _, hopen _, hopen _⟩

end

/-! Transforms (R200) -/

/-- The state after a command stored `len` free values. -/
def openedSlots (s : State) (dst len : Nat) : State :=
  { s.memWrite dst (freeVec s.draws len) with draws := s.draws + len }

theorem putVec_false {v : List U256} {len : Nat} (h : v.length = len) (s : State) (dst : Nat) :
    s.putVec dst false v = openedSlots s dst len := by
  rw [State.putVec, openVec_false, h]
  rfl

section
variable {s : State} {src dst len : Word} {k : Nat} (hlen : len.toNat = 2 ^ k) (hk : k ≤ s.cfg.maxLog)
  (hsrc : src.toNat + 2 ^ k ≤ s.cfg.vmSize) (hdst : dst.toNat + 2 ^ k ≤ s.cfg.vmSize)
include hlen hk hsrc hdst

/-- With an unreduced operand the checks pass as with reduced ones, and the stored vector is free. -/
theorem settle_transform_open (op : Nat) {shape : Option (Nat × Nat)} (hshape : shapeTrap shape len.toNat = none) {extra : Bool}
    (hopen : (extra && allReduced s.cfg (s.memRead src.toNat (2 ^ k))) = false) {fn : List U256 → List U256}
    (hfn : (fn (s.memRead src.toNat (2 ^ k))).length = 2 ^ k) :
    settle s (guarded (transformTrap s op src dst len shape) (transformEffect s src dst len extra fn)) =
      .next (complete (openedSlots s dst.toNat (2 ^ k)).setRinit) := by
  rw [transformTrap_of_fits hlen hk hshape hsrc op hdst, guarded_none, settle_ok, transformEffect, hlen, hopen, putVec_false hfn]

theorem exec_transforms_of_unreduced (hr : allReduced s.cfg (s.memRead src.toNat (2 ^ k)) = false) :
    exec (.fftrec src dst len) s = .next (complete (openedSlots s dst.toNat (2 ^ k)).setRinit) ∧
    exec (.ifft src dst len) s = .next (complete (openedSlots s dst.toNat (2 ^ k)).setRinit) ∧
    ∀ la lb : Byte, la.toNat + lb.toNat = k →
      exec (.fft4 la lb src dst len) s = .next (complete (openedSlots s dst.toNat (2 ^ k)).setRinit) := by
  have hlog : len.toNat.log2 = k := by rw [hlen, Nat.log2_two_pow]
  refine ⟨settle_transform_open hlen hk hsrc hdst 0x40 rfl (by rw [hr, Bool.and_false]) ?_,
    settle_transform_open hlen hk hsrc hdst 0x43 rfl (by rw [hr, Bool.and_false]) ?_, fun la lb hsum => ?_⟩
  · rw [hlog]
    exact recFft_length _ _ _ (memRead_length _ _ _)
  · rw [hlog, invFft_length]
  · exact settle_transform_open hlen hk hsrc hdst 0x42 (shapeTrap_of_factoring hlen hsum) (by rw [hr, Bool.and_false])
      (by rw [fourStep_length, hsum])

theorem exec_fftr2_of_unreduced {fw : RegIdx} (h : allReduced s.cfg (s.memRead src.toNat (2 ^ k)) = false ∨
    k ≠ 0 ∧ s.cfg.n.toNat ≤ (s.getF fw).toNat) :
    exec (.fftr2 fw src dst len) s = .next (complete (openedSlots s dst.toNat (2 ^ k)).setRinit) := by
  have hlog : len.toNat.log2 = k := by rw [hlen, Nat.log2_two_pow]
  refine settle_transform_open hlen hk hsrc hdst 0x41 rfl ?_ (by rw [hlog]; exact radix2Fft_length _ _ _ _)
  rcases h with hr | ⟨hk0, hroot⟩
  · rw [hr, Bool.and_false]
  · have hone : (len == 1) = false := by
      rw [beq_eq_false_iff_ne]
      rintro rfl
      exact hk0 (Nat.pow_right_injective le_rfl (hlen.symm.trans (pow_zero 2).symm))
    rw [hone, isReduced_of_ge hroot, Bool.or_self, Bool.false_and]

end

/-! Job commands (R233 to R240, R246) -/

section
variable {s : State} {js jo : JobIdx} {k : Nat}

theorem exec_jnew_of_unreduced {src len : Word} (jobId : Word) (hempty : s.getJob js = none) (hlen : len.toNat = 2 ^ k)
    (hfit : 2 ^ k ≤ s.cfg.jMaxLen) (hsrc : src.toNat + 2 ^ k ≤ s.cfg.vmSize)
    (hr : allReduced s.cfg (s.memRead src.toNat (2 ^ k)) = false) : exec (.jnew js src len jobId) s = .next { s with
      jt := s.jt.setIfInBounds js.toNat (some ⟨.job, jobId, 0, false, freeVec s.draws (2 ^ k)⟩)
      draws := s.draws + 2 ^ k
      cseq := s.cseq + 1
      busy := false } := by
  have htrap := jnewTrap_of_length (src := src) hempty hlen hfit
  rw [boundsTrap_of_fits (by rwa [hlen])] at htrap
  rw [show exec (.jnew js src len jobId) s = settle s (guarded (jnewTrap s js src len) (s.withJobWork (s.jobWork.put
    (allReduced s.cfg (s.memRead src.toNat len.toNat)) js.toNat ⟨.job, jobId, 0, false, s.memRead src.toNat len.toNat⟩)))
    from rfl, htrap, hlen, hr, JobWork.put, openVec_false, memRead_length]
  rfl

variable {e : JobEntry} (he : s.getJob js = some e) (hk : e.data.length = 2 ^ k) (hr : allReduced s.cfg e.data = false)
include he hk hr

theorem exec_jfork_of_unreduced {target : Word} {g t : Nat} (htarget : target.toNat = 2 ^ g) (ht : k = g + t)
    (hkind : e.kind = .job) (hslots : jo.toNat + 2 ^ t ≤ 64)
    (hnumbers : (e.pathId.toNat + 1) * 2 ^ t + 2 ^ t - 2 < 2 ^ 32) (hfree : ∀ i, i < 2 ^ t → s.jt[jo.toNat + i]? = some none) :
    ∃ u, exec (.jfork jo js target) s = .next { s with
        jt := u, draws := s.draws + 2 ^ k, cseq := s.cseq + 1, busy := false } ∧
      (∀ i, i < 2 ^ t → u[jo.toNat + i]? =
        some (some { forkLeaf e t (2 ^ g) i with data := freeVec (s.draws + i * 2 ^ g) (2 ^ g) })) ∧
      ∀ j, j < jo.toNat ∨ jo.toNat + 2 ^ t ≤ j → u[j]? = s.jt[j]? := by
  obtain ⟨u, hexec, hleaves, hothers⟩ :=
    exec_jfork_of_ready ⟨he, hkind, hk, ht, hslots, hnumbers, hfree⟩ htarget hr
  refine ⟨u, hexec, fun i hi => ?_, hothers⟩
  rw [hleaves i hi, openVec_false, forkLeaf_length]
  rfl

theorem exec_jfft_of_unreduced (hkind : e.kind = .job) (hle : k ≤ s.cfg.maxLog) : exec (.jfft js) s = .next { s with
    jt := s.jt.setIfInBounds js.toNat (some { jobTransform s.cfg e with data := freeVec s.draws (2 ^ k) })
    draws := s.draws + 2 ^ k
    rinit := true
    cseq := s.cseq + 1
    busy := false } := by
  rw [exec_jfft_of_job he hkind, hk, rootTrap_of_pow hle, hr, JobWork.put, openVec_false, jobTransform_data hk,
    recFft_length _ _ _ hk]
  rfl

theorem exec_jst_of_unreduced {dst : Word} (hdst : dst.toNat + 2 ^ k ≤ s.cfg.vmSize) :
    exec (.jst js dst) s = .next (complete (openedSlots s dst.toNat (2 ^ k))) := by
  rw [exec_jst_of_entry he, hk, boundsTrap_of_fits hdst, hr, putVec_false hk, guarded_none, settle_ok]

omit hk hr in
theorem exec_jmerge_of_unreduced {b : JobEntry} (hb : s.getJob jo = some b) (hke : e.kind = .mergeJob) (hkb : b.kind = .mergeJob)
    (hmask : pairMask e b = 0) (hk : e.data.length = 2 ^ k) (hfit : 2 * 2 ^ k ≤ s.cfg.jMaxLen) (hroot : k + 1 ≤ s.cfg.maxLog)
    (hr : allReduced s.cfg e.data = false ∨ allReduced s.cfg b.data = false) : exec (.jmerge js jo) s = .next { s with
      jt := (s.jt.setIfInBounds js.toNat
        (some { mergeEntries s.cfg e b with data := freeVec s.draws (2 * 2 ^ k) })).setIfInBounds jo.toNat none
      draws := s.draws + 2 * 2 ^ k
      rinit := true
      cseq := s.cseq + 1
      busy := false } := by
  have hopen : (allReduced s.cfg e.data && allReduced s.cfg b.data) = false := by rcases hr with h | h <;> simp [h]
  have htrap : mergeTrap s.cfg js.toNat jo.toNat e b = none := by
    rw [mergeTrap_of_fits hmask (by rwa [hk]), hk, ← pow_succ', rootTrap_of_pow hroot]
  rw [exec_jmerge_of_mergeJobs he hke hb hkb, htrap, hopen, mergedWork, JobWork.put, openVec_false,
    mergeEntries_length (pairMask_zero_length hmask), hk]
  rfl

end

end Sys2Proof.Proofs
end

section
/-! `JRUN` and the elements of the table: its course depends on tags and lengths only (44_job_merge.md R245), and with an unreduced
element every entry it writes is a vector of free values (93_implementation_defined.md U1). -/

namespace Sys2Proof.Proofs

open Sys2Proof.Machine Sys2Proof.Laws

/-! Tags and lengths -/

theorem shape_eq_iff {e x : JobEntry} : e.shape = x.shape ↔
    e.kind = x.kind ∧ e.jobId = x.jobId ∧ e.pathId = x.pathId ∧ e.side = x.side ∧ e.data.length = x.data.length := by
  have hdata : ∀ u v : List U256, (u.map fun _ => (0 : U256)) = v.map (fun _ => 0) ↔ u.length = v.length := by
    intro u v
    rw [List.map_const', List.map_const']
    exact ⟨fun h => by simpa using congrArg List.length h, fun h => by rw [h]⟩
  simp only [JobEntry.shape, JobEntry.mk.injEq, hdata]

theorem evens_odds_length_congr {u v : List U256} (h : u.length = v.length) :
    (evens u).length = (evens v).length ∧ (odds u).length = (odds v).length := by
  have hu := evens_odds_length u
  have hv := evens_odds_length v
  omega

theorem combine_length_congr (c : Cfg) (w w' : U256) {u u' v v' : List U256} (hu : u.length = u'.length)
    (hv : v.length = v'.length) : (combine c w u v).length = (combine c w' u' v').length := by
  simp [combine, hu, hv]

theorem recFft_length_congr (c : Cfg) : ∀ (k : Nat) {u v : List U256}, u.length = v.length →
    (recFft c k u).length = (recFft c k v).length
  | 0, _, _, h => h
  | k + 1, _, _, h =>
    combine_length_congr c _ _ (recFft_length_congr c k (evens_odds_length_congr h).1)
      (recFft_length_congr c k (evens_odds_length_congr h).2)

theorem jobTransform_shape_congr (c : Cfg) {e x : JobEntry} (h : e.shape = x.shape) :
    (jobTransform c e).shape = (jobTransform c x).shape := by
  obtain ⟨-, hid, hpath, -, hlen⟩ := shape_eq_iff.1 h
  refine shape_eq_iff.2 ⟨rfl, hid, by simp only [jobTransform, hpath], by simp only [jobTransform, hpath], ?_⟩
  simp only [jobTransform, hlen]
  exact recFft_length_congr c _ hlen

theorem mergeEntries_shape_congr (c : Cfg) {a b a' b' : JobEntry} (ha : a.shape = a'.shape) (hb : b.shape = b'.shape) :
    (mergeEntries c a b).shape = (mergeEntries c a' b').shape := by
  obtain ⟨-, hid, hpath, hside, hlen⟩ := shape_eq_iff.1 ha
  obtain ⟨-, -, -, -, hlen'⟩ := shape_eq_iff.1 hb
  refine shape_eq_iff.2 ⟨rfl, hid, by simp only [mergeEntries, hpath], by simp only [mergeEntries, hpath], ?_⟩
  simp only [mergeEntries, hside]
  cases a'.side
  · exact combine_length_congr c _ _ hlen hlen'
  · exact combine_length_congr c _ _ hlen' hlen

theorem mergeTrap_congr (c : Cfg) (i j : Nat) {a b a' b' : JobEntry} (ha : a.shape = a'.shape) (hb : b.shape = b'.shape) :
    mergeTrap c i j a b = mergeTrap c i j a' b' := by
  obtain ⟨-, hid, hpath, hside, hlen⟩ := shape_eq_iff.1 ha
  obtain ⟨-, hid', hpath', hside', hlen'⟩ := shape_eq_iff.1 hb
  have hmask : pairMask a b = pairMask a' b' := by
    rw [pairMask, pairMask, hid, hpath, hside, hlen, hid', hpath', hside', hlen']
  rw [mergeTrap, mergeTrap, hmask, hlen]

@[simp] theorem opened_shape (reduced : Bool) (n : Nat) (e : JobEntry) : (opened reduced n e).shape = e.shape :=
  shape_eq_iff.2 ⟨rfl, rfl, rfl, rfl, openVec_length _ _ _⟩

/-! The table's tags and lengths -/

/-- The work with every element 0 and no count of draws. -/
def shapeOf (w : JobWork) : JobWork := ⟨w.jt.map (Option.map JobEntry.shape), 0, w.rinit⟩

theorem shapeOf_slot (w : JobWork) (j : Nat) : (shapeOf w).slot j = (w.slot j).map JobEntry.shape := by
  by_cases hj : j < 64 <;> simp [shapeOf, JobWork.slot, hj]

section
variable {w v : JobWork}

theorem shapeOf_eq_iff : shapeOf w = shapeOf v ↔
    (∀ j, (w.slot j).map JobEntry.shape = (v.slot j).map JobEntry.shape) ∧ w.rinit = v.rinit := by
  constructor
  · intro h
    have hrinit : (shapeOf w).rinit = (shapeOf v).rinit := congrArg JobWork.rinit h
    exact ⟨fun j => by rw [← shapeOf_slot, h, shapeOf_slot], hrinit⟩
  · rintro ⟨hslot, hrinit⟩
    have hjt : (shapeOf w).jt = (shapeOf v).jt := by
      refine Vector.ext fun j hj => ?_
      have hs := hslot j
      rw [← shapeOf_slot, ← shapeOf_slot] at hs
      simpa [JobWork.slot, hj] using hs
    rw [shapeOf, hrinit]
    exact congrArg (fun jt => JobWork.mk jt 0 v.rinit) hjt

theorem slot_alike (h : shapeOf w = shapeOf v) (j : Nat) : (w.slot j).map JobEntry.shape = (v.slot j).map JobEntry.shape :=
  (shapeOf_eq_iff.1 h).1 j

/-- Tables with the same tags and lengths have their entries in the same slots. -/
theorem exists_alike (h : shapeOf w = shapeOf v) {j : Nat} {e : JobEntry} (he : w.slot j = some e) :
    ∃ x, v.slot j = some x ∧ x.shape = e.shape := by
  have hs := slot_alike h j
  rw [he] at hs
  exact Option.map_eq_some_iff.1 hs.symm

theorem shapeOf_put (h : shapeOf w = shapeOf v) {e x : JobEntry} (hx : e.shape = x.shape) (r r' : Bool) (j : Nat) :
    shapeOf (w.put r j e) = shapeOf (v.put r' j x) := by
  refine shapeOf_eq_iff.2 ⟨fun k => ?_, (shapeOf_eq_iff.1 h).2⟩
  rw [slot_put, slot_put]
  split_ifs
  · exact congrArg some ((opened_shape r w.draws e).trans (hx.trans (opened_shape r' v.draws x).symm))
  · exact slot_alike h k

theorem shapeOf_clear (h : shapeOf w = shapeOf v) (j : Nat) : shapeOf (w.clear j) = shapeOf (v.clear j) := by
  refine shapeOf_eq_iff.2 ⟨fun k => ?_, (shapeOf_eq_iff.1 h).2⟩
  rw [slot_clear, slot_clear]
  split_ifs
  · rfl
  · exact slot_alike h k

theorem shapeOf_useRoots (h : shapeOf w = shapeOf v) : shapeOf w.useRoots = shapeOf v.useRoots :=
  shapeOf_eq_iff.2 ⟨fun j => slot_alike (w := w) (v := v) h j, rfl⟩

/-- Statements about tags list the same slots. -/
theorem slotsWhere_map_fst_congr (h : shapeOf w = shapeOf v) {p : JobEntry → Bool}
    (hp : ∀ e x : JobEntry, e.shape = x.shape → p e = p x) :
    (slotsWhere w.jt p).map (·.1) = (slotsWhere v.jt p).map (·.1) := by
  rw [slotsWhere_map_fst, slotsWhere_map_fst]
  refine List.filter_congr fun j _ => ?_
  have hs := slot_alike h j
  rw [← slot_eq, ← slot_eq]
  cases hw : w.slot j with
  | none =>
    rw [hw, Option.map_none, eq_comm, Option.map_eq_none_iff] at hs
    rw [hs]
  | some e =>
    obtain ⟨x, hx, hshape⟩ := exists_alike h hw
    rw [hx]
    exact hp e x hshape.symm

theorem jobsOf_map_fst_congr (h : shapeOf w = shapeOf v) (id : Word) :
    (jobsOf w.jt id).map (·.1) = (jobsOf v.jt id).map (·.1) := by
  refine slotsWhere_map_fst_congr h fun e x hx => ?_
  obtain ⟨hkind, hid, -⟩ := shape_eq_iff.1 hx
  rw [hkind, hid]

theorem mergeJobsOf_map_fst_congr (h : shapeOf w = shapeOf v) (id : Word) :
    (mergeJobsOf w.jt id).map (·.1) = (mergeJobsOf v.jt id).map (·.1) := by
  refine slotsWhere_map_fst_congr h fun e x hx => ?_
  obtain ⟨hkind, hid, -⟩ := shape_eq_iff.1 hx
  rw [hkind, hid]

theorem mergeJobsOf_length_congr (h : shapeOf w = shapeOf v) (id : Word) :
    (mergeJobsOf w.jt id).length = (mergeJobsOf v.jt id).length := by
  rw [← List.length_map (·.1), mergeJobsOf_map_fst_congr h id, List.length_map]

theorem exists_alike_mergeJob (h : shapeOf w = shapeOf v) {id : Word} {j : Nat} {e : JobEntry}
    (he : (j, e) ∈ mergeJobsOf w.jt id) : ∃ x, (j, x) ∈ mergeJobsOf v.jt id ∧ x.shape = e.shape := by
  obtain ⟨hslot, hkind, hid⟩ := mem_mergeJobsOf.1 he
  obtain ⟨x, hx, hshape⟩ := exists_alike h hslot
  obtain ⟨hk, hi, -⟩ := shape_eq_iff.1 hshape
  exact ⟨x, mem_mergeJobsOf.2 ⟨hx, hk.trans hkind, hi.trans hid⟩, hshape⟩

theorem MatesAt.of_alike (h : shapeOf w = shapeOf v) {id : Word} {i j : Nat} (hm : MatesAt (mergeJobsOf w.jt id) i j) :
    MatesAt (mergeJobsOf v.jt id) i j := by
  obtain ⟨e, o, he, ho, hij, hmate⟩ := hm
  obtain ⟨e', he', hes⟩ := exists_alike_mergeJob h he
  obtain ⟨o', ho', hos⟩ := exists_alike_mergeJob h ho
  obtain ⟨-, -, hep, heside, -⟩ := shape_eq_iff.1 hes
  obtain ⟨-, -, hop, hoside, -⟩ := shape_eq_iff.1 hos
  exact ⟨e', o', he', ho', hij, by rw [isMate, hep, heside, hop, hoside]; exact hmate⟩

theorem findPair_congr (h : shapeOf w = shapeOf v) (id : Word) :
    findPair (mergeJobsOf w.jt id) = findPair (mergeJobsOf v.jt id) := by
  have hiff : ∀ i j, MatesAt (mergeJobsOf w.jt id) i j ↔ MatesAt (mergeJobsOf v.jt id) i j :=
    fun i j => ⟨.of_alike h, .of_alike h.symm⟩
  refine Option.ext fun p => ?_
  obtain ⟨i, j⟩ := p
  rw [findPair_eq_some_iff, findPair_eq_some_iff, LeastMates, LeastMates, hiff]
  simp only [hiff]

end

/-! The course of a run -/

/-- Two results of work on the table: one trap, or tables with the same tags and lengths. -/
inductive SameCourse : Except Trap JobWork → Except Trap JobWork → Prop
  | error (t : Trap) : SameCourse (.error t) (.error t)
  | ok {w v : JobWork} (h : shapeOf w = shapeOf v) : SameCourse (.ok w) (.ok v)

theorem SameCourse.bind {r q : Except Trap JobWork} (h : SameCourse r q) {f g : JobWork → Except Trap JobWork}
    (hfg : ∀ w v, shapeOf w = shapeOf v → SameCourse (f w) (g v)) : SameCourse (r.bind f) (q.bind g) := by
  cases h with
  | error t => exact .error t
  | ok h => exact hfg _ _ h

theorem SameCourse.elim (o : Option Trap) {w v : JobWork} (h : shapeOf w = shapeOf v) :
    SameCourse (o.elim (.ok w) .error) (o.elim (.ok v) .error) := by
  cases o with
  | none => exact .ok h
  | some t => exact .error t

section
variable {w v : JobWork} (c : Cfg) (r r' : Bool)

theorem fftSlot_sameCourse (h : shapeOf w = shapeOf v) (j : Nat) : SameCourse (fftSlot c r j w) (fftSlot c r' j v) := by
  cases hw : w.slot j with
  | none =>
    have hs := slot_alike h j
    rw [hw, Option.map_none, eq_comm, Option.map_eq_none_iff] at hs
    simp only [fftSlot, hw, hs]
    exact .error _
  | some e =>
    obtain ⟨x, hx, hshape⟩ := exists_alike h hw
    obtain ⟨hkind, -, -, -, hlen⟩ := shape_eq_iff.1 hshape
    by_cases hjob : e.kind = .job
    · rw [fftSlot_of_job hw hjob, fftSlot_of_job hx (hkind.trans hjob), hlen]
      exact .elim _ (shapeOf_useRoots (shapeOf_put h (jobTransform_shape_congr c hshape.symm) r r' j))
    · simp only [fftSlot, hw, hx, hkind, ne_eq, hjob, not_false_eq_true, if_true]
      exact .error _

theorem fftLeaves_sameCourse : ∀ (js : List Nat) {w v : JobWork}, shapeOf w = shapeOf v →
    SameCourse (fftLeaves c r js w) (fftLeaves c r' js v)
  | [], _, _, h => .ok h
  | j :: js, _, _, h => (fftSlot_sameCourse c r r' h j).bind fun _ _ h => fftLeaves_sameCourse js h

theorem mergeRounds_sameCourse (id : Word) : ∀ (n : Nat) {w v : JobWork}, shapeOf w = shapeOf v →
    SameCourse (mergeRounds c r id n w) (mergeRounds c r' id n v)
  | 0, _, _, h => .ok h
  | n + 1, w, v, h => by
    have hlen := mergeJobsOf_length_congr h id
    have hfind := findPair_congr h id
    by_cases hone : (mergeJobsOf w.jt id).length ≤ 1
    · rw [mergeRounds_of_le_one _ hone, mergeRounds_of_le_one _ (hlen ▸ hone)]
      exact .ok h
    · cases hf : findPair (mergeJobsOf w.jt id) with
      | none =>
        rw [mergeRounds_of_no_pair _ (by omega) hf, mergeRounds_of_no_pair _ (by omega) (hfind ▸ hf), hlen]
        exact .error _
      | some p =>
        obtain ⟨i, j⟩ := p
        obtain ⟨a, b, ha, hb, -, -, -, hmerge⟩ := mergeSlots_of_mates (c := c) (findPair_eq_some_iff.1 hf).1
        obtain ⟨a', b', ha', hb', -, -, -, hmerge'⟩ := mergeSlots_of_mates (c := c) (findPair_eq_some_iff.1 (hfind ▸ hf)).1
        have hsa : a.shape = a'.shape := by simpa [ha.1, ha'.1] using slot_alike h i
        have hsb : b.shape = b'.shape := by simpa [hb.1, hb'.1] using slot_alike h j
        rw [mergeRounds_of_pair _ hf, mergeRounds_of_pair _ (hfind ▸ hf), hmerge, hmerge', mergeTrap_congr c i j hsa hsb]
        refine (SameCourse.elim _ ?_).bind fun _ _ h => mergeRounds_sameCourse id n h
        exact shapeOf_useRoots (shapeOf_clear (shapeOf_put h (mergeEntries_shape_congr c hsa hsb) r r' i) j)

theorem runTree_sameCourse (h : shapeOf w = shapeOf v) (id : Word) :
    SameCourse (runTree c r id w) (runTree c r' id v) := by
  rw [runTree, runTree, jobsOf_map_fst_congr h id]
  exact (fftLeaves_sameCourse c r r' _ h).bind fun _ _ h => mergeRounds_sameCourse c r r' id 64 h

end

/-- The report names a slot, a number and a length. -/
theorem reportRun_shape {s t : State} {w v : JobWork} (h : shapeOf w = shapeOf v) (hst : s.shape = t.shape) (id : Word) :
    (reportRun (s.withJobWork w) id).shape = (reportRun (t.withJobWork v) id).shape := by
  have hstate : (s.withJobWork w).shape = (t.withJobWork v).shape := by
    rw [show (s.withJobWork w).shape = s.shape.withJobWork (shapeOf w) from rfl, h, hst]
    rfl
  have hset : ∀ (u : State) (r0 r1 r2 : Word), (u.setRes r0 r1 r2).shape = u.shape.setRes r0 r1 r2 := fun _ _ _ _ => rfl
  have hfst := mergeJobsOf_map_fst_congr h id
  unfold reportRun
  dsimp only [State.withJobWork_jt]
  cases hw : mergeJobsOf w.jt id with
  | nil =>
    rw [hw, List.map_nil, eq_comm, List.map_eq_nil_iff] at hfst
    rw [hfst, hset, hset, hstate]
  | cons y l =>
    obtain ⟨j, e⟩ := y
    cases l with
    | nil =>
      obtain ⟨x, hx, hshape⟩ := exists_alike_mergeJob h (hw ▸ List.mem_singleton.2 rfl : (j, e) ∈ mergeJobsOf w.jt id)
      obtain ⟨-, -, hpath, -, hlen⟩ := shape_eq_iff.1 hshape
      have hone := eq_singleton_of_slots (slotsWhere_pairwise _ _) hx fun y hy => by
        have hmem : y.1 ∈ (mergeJobsOf v.jt id).map (·.1) := List.mem_map_of_mem hy
        rw [← hfst, hw] at hmem
        simpa using hmem
      rw [mergeJobsOf, hone]
      dsimp only
      rw [hset, hset, hstate, hpath, hlen]
    | cons z l =>
      have hmany := congrArg List.length hfst
      rw [hw, List.length_map, List.length_map] at hmany
      cases hv : mergeJobsOf v.jt id with
      | nil => rw [hv] at hmany; cases hmany
      | cons y' l' =>
        cases l' with
        | nil => rw [hv] at hmany; cases hmany
        | cons z' l' =>
          dsimp only
          rw [hset, hset, hstate]

/-- `JRUN` takes states that differ in elements only to such states. -/
theorem exec_jrun_shape {s t s' : State} {id : Word} (hst : s.shape = t.shape) (h : exec (.jrun id) s = .next s') :
    ∃ t', exec (.jrun id) t = .next t' ∧ s'.shape = t'.shape := by
  have hcfg : s.cfg = t.cfg := show s.shape.cfg = t.shape.cfg from congrArg State.cfg hst
  have hwork : shapeOf s.jobWork = shapeOf t.jobWork := congrArg State.jobWork hst
  have hcourse := runTree_sameCourse s.cfg (treeReduced s.cfg s.jt id) (treeReduced t.cfg t.jt id) hwork id
  rw [exec_jrun] at h
  rw [exec_jrun, ← hcfg]
  rw [← hcfg] at hcourse
  generalize runTree s.cfg (treeReduced s.cfg s.jt id) id s.jobWork = r at h hcourse
  generalize runTree s.cfg (treeReduced s.cfg t.jt id) id t.jobWork = q at hcourse ⊢
  cases hcourse with
  | error tr =>
    cases h
    refine ⟨_, rfl, ?_⟩
    rw [show (raise tr s).shape = raise tr s.shape from rfl, hst]
    rfl
  | ok hwv =>
    cases h
    refine ⟨_, rfl, ?_⟩
    have hcomplete : ∀ u : State, (complete u).shape = complete u.shape := fun _ => rfl
    rw [hcomplete, hcomplete, reportRun_shape hwv hst id]

/-! Free values in a run -/

/-- Every entry is one of `w0`'s, or a vector of free values counted from `w0`'s count or later. -/
def FreeOrKept (w0 w : JobWork) : Prop :=
  w0.draws ≤ w.draws ∧ ∀ j x, w.slot j = some x → w0.slot j = some x ∨ ∃ n, w0.draws ≤ n ∧ x.data = freeVec n x.data.length

theorem FreeOrKept.opened {w0 w : JobWork} (h : FreeOrKept w0 w) (e : JobEntry) :
    ∃ n, w0.draws ≤ n ∧ (Proofs.opened false w.draws e).data = freeVec n (Proofs.opened false w.draws e).data.length :=
  ⟨w.draws, h.1, by rw [opened_false rfl, freeVec_length]⟩

theorem put_draws_ge (w : JobWork) (reduced : Bool) (j : Nat) (e : JobEntry) : w.draws ≤ (w.put reduced j e).draws := by
  cases reduced <;> simp [JobWork.put, openVec]

theorem runKeeps_freeOrKept (c : Cfg) (id : Word) (w0 : JobWork) : RunKeeps c false id (FreeOrKept w0) where
  transform w j e hw he _ := by
    refine ⟨hw.1.trans (put_draws_ge w false j _), fun k x hx => ?_⟩
    rw [transformedWork_slot he] at hx
    split_ifs at hx
    · cases hx
      exact .inr (hw.opened _)
    · exact hw.2 k x hx
  merge w i j a b hw ha _ _ _ _ := by
    refine ⟨hw.1.trans (put_draws_ge w false i _), fun k x hx => ?_⟩
    rw [mergedWork_slot ha] at hx
    split_ifs at hx
    · cases hx
      exact .inr (hw.opened _)
    · exact hw.2 k x hx

/-- With an unreduced element of the `job_id` in the table, what `JRUN` writes is free. -/
theorem exec_jrun_of_unreduced {s t : State} {id : Word} {i j : Nat} {e x : JobEntry} (he : s.jt[i]? = some (some e))
    (hid : e.jobId = id) (hr : allReduced s.cfg e.data = false) (h : exec (.jrun id) s = .next t)
    (hx : t.jt[j]? = some (some x)) :
    s.jt[j]? = some (some x) ∨ ∃ n, s.draws ≤ n ∧ x.data = freeVec n x.data.length := by
  have hopen : treeReduced s.cfg s.jt id = false := by
    rw [← Bool.not_eq_true, treeReduced_iff]
    intro hall
    rw [hall i e (by rw [he, Option.getD_some]) hid] at hr
    cases hr
  rw [exec_jrun, hopen] at h
  rcases settle_cases h with ⟨u, hu, rfl⟩ | ⟨tr, -, rfl⟩
  · cases hw : runTree s.cfg false id s.jobWork with
    | error tr => rw [hw] at hu; cases hu
    | ok w =>
      rw [hw] at hu
      cases hu
      have hslot : w.slot j = some x := by
        rw [complete_jt, reportRun_jt, State.withJobWork_jt] at hx
        rw [slot_eq, hx, Option.getD_some]
      have hkept : FreeOrKept s.jobWork w :=
        (runKeeps_freeOrKept s.cfg id s.jobWork).runTree ⟨le_rfl, fun _ _ h => .inl h⟩ hw
      refine (hkept.2 j x hslot).imp_left fun hs => ?_
      exact jt_getElem_of_slot (slot_lt hs) hs
  · exact .inl hx

end Sys2Proof.Proofs
end

section
/-! Polynomial commands with an unreduced operand: the forms they write or force are free vectors, and `RINIT` says whether a form
was transformed (45_polynomial.md R260, R262 to R276; 93_implementation_defined.md U1). -/

namespace Sys2Proof.Proofs

open Sys2Proof.Machine Sys2Proof.Laws

/-! Making (R263, R264) -/

theorem ceilPow2_eq {n k : Nat} (h : n ≤ 2 ^ k) (hmin : ∀ m, n ≤ 2 ^ m → k ≤ m) : ceilPow2 n = 2 ^ k := by
  unfold ceilPow2
  split_ifs with hone hpow
  · have hk := hmin 0 hone
    rw [Nat.le_zero.1 hk, pow_zero]
  · have hn := eq_two_pow_log2 hpow
    have hle := hmin n.log2 hn.le
    have hge : n.log2 ≤ k := (Nat.pow_le_pow_iff_right one_lt_two).1 (hn ▸ h)
    rwa [Nat.le_antisymm hge hle] at hn
  · have hle := hmin (n.log2 + 1) Nat.lt_log2_self.le
    have hself : 2 ^ n.log2 ≤ n := Nat.log2_self_le (by omega)
    have hne : n ≠ 2 ^ n.log2 := fun heq => hpow ((isPow2_iff n).2 ⟨_, heq⟩)
    have hge : n.log2 < k := (Nat.pow_lt_pow_iff_right one_lt_two).1 (lt_of_lt_of_le (by omega) h)
    rw [Nat.le_antisymm hle hge]

section
variable {s : State} {pd : PolyIdx} {src len : Word} {k : Nat} (hempty : s.getPoly pd = none) (hfit : 2 ^ k ≤ s.cfg.pMaxDeg)
  (hsrc : src.toNat + len.toNat ≤ s.cfg.vmSize) (hr : allReduced s.cfg (s.memRead src.toNat len.toNat) = false)
include hempty hfit hsrc hr

theorem exec_pnew_of_unreduced (hle : len.toNat ≤ 2 ^ k) (hmin : ∀ m, len.toNat ≤ 2 ^ m → k ≤ m) :
    exec (.pnew pd src len) s = .next { s with
      pd := s.pd.setIfInBounds pd.toNat (some ⟨2 ^ k, some (freeVec s.draws (2 ^ k)), none⟩)
      draws := s.draws + 2 ^ k
      cseq := s.cseq + 1
      busy := false } := by
  have hceil := ceilPow2_eq hle hmin
  have htrap : pnewTrap s pd src len = none := by
    simp [pnewTrap, hempty, hceil, Nat.not_lt.2 hfit, boundsTrap_of_fits hsrc]
  have hlen : (s.memRead src.toNat len.toNat ++ List.replicate (2 ^ k - len.toNat) 0).length = 2 ^ k := by
    rw [List.length_append, memRead_length, List.length_replicate]
    omega
  simp only [exec, execPnew, htrap, hceil, hr, guarded_none, settle_ok, State.newCoef, openVec_false, hlen]
  rfl

theorem exec_pnewp_of_unreduced (hlen : len.toNat = 2 ^ k) : exec (.pnewp pd src len) s = .next { s with
    pd := s.pd.setIfInBounds pd.toNat (some ⟨2 ^ k, none, some (freeVec s.draws (2 ^ k))⟩)
    draws := s.draws + 2 ^ k
    cseq := s.cseq + 1
    busy := false } := by
  have htrap : pnewpTrap s pd src len = none := by
    rw [hlen] at hsrc
    simp [pnewpTrap, hempty, hlen, isPow2_pow, Nat.not_lt.2 hfit, boundsTrap_of_fits hsrc]
  rw [hlen] at hr
  simp only [exec, execPnewp, htrap, hlen, hr, guarded_none, settle_ok, State.newPoint, openVec_false, memRead_length]
  rfl

end

/-! One descriptor (R262, R265) -/

theorem onPoly_of_poly {s : State} {i : PolyIdx} {p : Poly} (h : s.getPoly i = some p) (body : Poly → Except Trap State) :
    onPoly s i body = body p := by
  simp only [onPoly, h]

theorem setPoly_self {s : State} {i : PolyIdx} {p : Poly} (h : s.getPoly i = some p) :
    s.pd.setIfInBounds i.toNat (some p) = s.pd := by
  have hi : i.toNat < 8 := by simpa [isPoly] using getPoly_isPoly h
  have hget : s.pd[i.toNat] = some p := by simpa [State.getPoly, hi] using h
  refine Vector.ext fun j hj => ?_
  rw [Vector.getElem_setIfInBounds hj]
  split_ifs with hij
  · subst hij
    exact hget.symm
  · rfl

theorem coefTrap_none {c : Cfg} {p : Poly} (h : p.coef.isSome = true ∨ p.degree.log2 ≤ c.maxLog) : p.coefTrap c = none := by
  rcases h with h | h
  · exact coefTrap_of_isSome h
  · simp [Poly.coefTrap, rootTrap, Nat.not_lt.2 h]

theorem pointTrap_none {c : Cfg} {p : Poly} (h : p.point.isSome = true ∨ p.degree.log2 ≤ c.maxLog) : p.pointTrap c = none := by
  rcases h with h | h
  · obtain ⟨v, hv⟩ := Option.isSome_iff_exists.1 h
    simp [Poly.pointTrap, hv]
  · simp [Poly.pointTrap, rootTrap, Nat.not_lt.2 h]

/-- The state after `force_coef` with an unreduced element. -/
def openedCoef (s : State) (i : PolyIdx) (p : Poly) : State :=
  { s with
    pd := s.pd.setIfInBounds i.toNat (some { p with coef := some (p.coef.getD (freeVec s.draws p.degree)) })
    draws := s.draws + if p.coef.isSome = true then 0 else p.degree
    rinit := s.rinit || p.coef.isNone }

/-- The state after `force_point` with an unreduced element. -/
def openedPoint (s : State) (i : PolyIdx) (p : Poly) : State :=
  { s with
    pd := s.pd.setIfInBounds i.toNat (some { p with point := some (p.point.getD (freeVec s.draws p.degree)) })
    draws := s.draws + if p.point.isSome = true then 0 else p.degree
    rinit := s.rinit || p.point.isNone }

section
variable {s : State} {pa : PolyIdx} {p : Poly} (hp : s.getPoly pa = some p) (hok : p.Ok s.cfg)
include hp hok

theorem forceCoef_false : s.forceCoef pa false = openedCoef s pa p := by
  obtain ⟨d, coef, point⟩ := p
  cases coef with
  | some v =>
    simp only [State.forceCoef, hp, Option.isSome_some, if_true, openedCoef, Option.getD_some, setPoly_self hp, Nat.add_zero,
      Option.isNone_some, Bool.or_false]
  | none =>
    simp only [State.forceCoef, hp, Option.isSome_none, Bool.false_eq_true, if_false, openVec_false, coefVec_length hok,
      openedCoef, Option.getD_none, Option.isNone_none, Bool.or_true]
    rfl

theorem forcePoint_false : s.forcePoint pa false = openedPoint s pa p := by
  obtain ⟨d, coef, point⟩ := p
  cases point with
  | some v =>
    simp only [State.forcePoint, hp, Option.isSome_some, if_true, openedPoint, Option.getD_some, setPoly_self hp, Nat.add_zero,
      Option.isNone_some, Bool.or_false]
  | none =>
    simp only [State.forcePoint, hp, Option.isSome_none, Bool.false_eq_true, if_false, openVec_false, pointVec_length hok rfl,
      openedPoint, Option.getD_none, Option.isNone_none, Bool.or_true]
    rfl

theorem coefOf_openedCoef_length : ((openedCoef s pa p).coefOf pa).length = p.degree := by
  have hget : (openedCoef s pa p).getPoly pa = some { p with coef := some (p.coef.getD (freeVec s.draws p.degree)) } :=
    getPoly_setPoly_same s pa _ (getPoly_isPoly hp)
  simp only [State.coefOf, hget, Option.bind_some, Option.getD_some]
  cases hc : p.coef with
  | none => rw [Option.getD_none, freeVec_length]
  | some v => exact hok.coef v hc

theorem pointOf_openedPoint_length : ((openedPoint s pa p).pointOf pa).length = p.degree := by
  have hget : (openedPoint s pa p).getPoly pa = some { p with point := some (p.point.getD (freeVec s.draws p.degree)) } :=
    getPoly_setPoly_same s pa _ (getPoly_isPoly hp)
  simp only [State.pointOf, hget, Option.bind_some, Option.getD_some]
  cases hc : p.point with
  | none => rw [Option.getD_none, freeVec_length]
  | some v => exact hok.point v hc

section
variable (htrap : p.coefTrap s.cfg = none)
include htrap

theorem exec_peval_of_unreduced {fd fx : RegIdx}
    (hr : allReduced s.cfg p.coefOperands = false ∨ s.cfg.n.toNat ≤ (s.getF fx).toNat) :
    exec (.peval fd pa fx) s = .next (complete (openedElem (openedCoef s pa p) fd)) := by
  have hopen : (allReduced s.cfg p.coefOperands && isReduced s.cfg (s.getF fx)) = false := by
    rcases hr with h | h
    · rw [h, Bool.false_and]
    · rw [isReduced_of_ge h, Bool.and_false]
  simp only [exec, execPeval, onPoly_of_poly hp, hopen, htrap, guarded_none, settle_ok, forceCoef_false hp hok, putElem_false]

variable (hr : allReduced s.cfg p.coefOperands = false)
include hr

theorem exec_pcoef_of_unreduced : exec (.pcoef pa) s = .next (complete (openedCoef s pa p)) := by
  simp only [exec, execPcoef, onPoly_of_poly hp, hr, htrap, guarded_none, settle_ok, forceCoef_false hp hok]

theorem exec_pstc_of_unreduced {dst : Word} (hdst : dst.toNat + p.degree ≤ s.cfg.vmSize) :
    exec (.pstc pa dst) s = .next (complete (openedSlots (openedCoef s pa p) dst.toNat p.degree)) := by
  simp only [exec, execPstc, onPoly_of_poly hp, hr, htrap, boundsTrap_of_fits hdst, Option.or_none, guarded_none, settle_ok,
    forceCoef_false hp hok, putVec_false (coefOf_openedCoef_length hp hok)]

theorem exec_pext_of_unreduced {target : Word} {k : Nat} (htarget : target.toNat = 2 ^ k) (hlt : p.degree < 2 ^ k)
    (hfit : 2 ^ k ≤ s.cfg.pMaxDeg) : exec (.pext pa target) s = .next { s with
      pd := s.pd.setIfInBounds pa.toNat (some ⟨2 ^ k, some (freeVec s.draws (2 ^ k)), none⟩)
      draws := s.draws + 2 ^ k
      rinit := s.rinit || p.coef.isNone
      cseq := s.cseq + 1
      busy := false } := by
  have hchecks : pextTrap s p (2 ^ k) = none := by
    simp [pextTrap, isPow2_pow, Nat.not_lt.2 hlt.le, Nat.not_lt.2 hfit, hlt.ne', htrap]
  have hlen : (p.coefVec s.cfg ++ List.replicate (2 ^ k - p.degree) 0).length = 2 ^ k := padded_length hok hlt.le
  simp only [exec, execPext, onPoly_of_poly hp, htarget, hchecks, hr, guarded_none, settle_ok, State.extend, hp, hlt.ne', if_false,
    openVec_false, hlen]
  rfl

end

section
variable (htrap : p.pointTrap s.cfg = none) (hr : allReduced s.cfg p.pointOperands = false)
include htrap hr

theorem exec_ppoint_of_unreduced : exec (.ppoint pa) s = .next (complete (openedPoint s pa p)) := by
  simp only [exec, execPpoint, onPoly_of_poly hp, hr, htrap, guarded_none, settle_ok, forcePoint_false hp hok]

theorem exec_pstp_of_unreduced {dst : Word} (hdst : dst.toNat + p.degree ≤ s.cfg.vmSize) :
    exec (.pstp pa dst) s = .next (complete (openedSlots (openedPoint s pa p) dst.toNat p.degree)) := by
  simp only [exec, execPstp, onPoly_of_poly hp, hr, htrap, boundsTrap_of_fits hdst, Option.or_none, guarded_none, settle_ok,
    forcePoint_false hp hok, putVec_false (pointOf_openedPoint_length hp hok)]

end

end

end Sys2Proof.Proofs
end

section
/-! `PADD` and `PMUL` with an unreduced operand: every form they make is a free vector, of the destination and of each source
(45_polynomial.md R265, R268, R269; 93_implementation_defined.md U1). -/

namespace Sys2Proof.Proofs

open Sys2Proof.Machine Sys2Proof.Laws

/-! What the operations on descriptors leave unchanged -/

/-- `t` differs from `s` in the descriptors, in the free values drawn and in `RINIT` only. -/
def PolysOnly (s t : State) : Prop := ∃ u n b, s.draws ≤ n ∧ t = { s with pd := u, draws := n, rinit := b }

namespace PolysOnly

variable {s t u : State}

theorem refl (s : State) : PolysOnly s s := ⟨s.pd, s.draws, s.rinit, le_rfl, rfl⟩

theorem trans (h : PolysOnly s t) (k : PolysOnly t u) : PolysOnly s u := by
  obtain ⟨_, _, _, hle, rfl⟩ := h
  obtain ⟨pd, n, b, hle', rfl⟩ := k
  exact ⟨pd, n, b, hle.trans hle', rfl⟩

theorem draws_le (h : PolysOnly s t) : s.draws ≤ t.draws := by
  obtain ⟨_, _, _, hle, rfl⟩ := h
  exact hle

theorem cfg_eq (h : PolysOnly s t) : t.cfg = s.cfg := by
  obtain ⟨_, _, _, _, rfl⟩ := h
  rfl

theorem of_open (s : State) (i : PolyIdx) (e : Option Poly) (v : List U256) (b : Bool) :
    PolysOnly s { s.setPoly i e with draws := (openVec false v s.draws).2, rinit := b } :=
  ⟨_, _, b, by rw [openVec_false]; exact Nat.le_add_right _ _, rfl⟩

theorem extend (s : State) (i : PolyIdx) (d : Nat) : PolysOnly s (s.extend i d false) := by
  unfold State.extend
  split
  · exact refl s
  · split
    · exact refl s
    · exact of_open s i _ _ _

theorem forceCoef (s : State) (i : PolyIdx) : PolysOnly s (s.forceCoef i false) := by
  unfold State.forceCoef
  split
  · exact refl s
  · split
    · exact refl s
    · exact of_open s i _ _ _

theorem forcePoint (s : State) (i : PolyIdx) : PolysOnly s (s.forcePoint i false) := by
  unfold State.forcePoint
  split
  · exact refl s
  · split
    · exact refl s
    · exact of_open s i _ _ _

theorem newCoef (s : State) (i : PolyIdx) (d : Nat) (v : List U256) : PolysOnly s (s.newCoef i false d v) :=
  of_open s i _ v s.rinit

theorem newPoint (s : State) (i : PolyIdx) (d : Nat) (v : List U256) : PolysOnly s (s.newPoint i false d v) :=
  of_open s i _ v s.rinit

end PolysOnly

/-! One operation on each of two sources, which may be one descriptor -/

/-- What an operation on two sources in turn makes of either of them, when it makes `Q'` of a descriptor of `Q`. -/
theorem MapsPoly.polyAt_pair {pa pb i : PolyIdx} {f g : Poly → Poly} {s t u : State} {Q Q' : Poly → Prop}
    (hf : MapsPoly pa f s t) (hg : MapsPoly pb g t u) (hi : i = pa ∨ i = pb) (hs : PolyAt i Q s) (hsub : ∀ x, Q' x → Q x)
    (hfQ : ∀ x, Q x → Q' (f x)) (hgQ : ∀ x, Q x → Q' (g x)) : PolyAt i Q' u := by
  rcases hi with rfl | rfl
  · exact hg.polyAt (hf.polyAt_self hs hfQ) fun x hx => hgQ x (hsub x hx)
  · exact hg.polyAt_self (hf.polyAt hs fun x hx => hsub _ (hfQ x hx)) hgQ

theorem pd_getElem_of_getPoly {s : State} {i : PolyIdx} {p : Poly} (h : s.getPoly i = some p) : s.pd[i.toNat]? = some (some p) := by
  have hi : i.toNat < 8 := by simpa [isPoly] using getPoly_isPoly h
  simpa [State.getPoly, hi] using h

/-! Stretching a source to degree `d` in coefficient form (R265, R268) -/

/-- `x` is what stretching to degree `d` makes of `p`, its free values drawn from `n₀` on. -/
def Stretched (n₀ d : Nat) (p x : Poly) : Prop :=
  if p.degree = d ∧ p.coef.isSome = true then x = p
  else ∃ n, n₀ ≤ n ∧ x = ⟨d, some (freeVec n d), if p.degree = d then p.point else none⟩

/-- `x` is `p` on its way to `Stretched`: not yet touched, or there. -/
def Stretching (n₀ d : Nat) (p x : Poly) : Prop := x = p ∨ Stretched n₀ d p x

theorem stretched_free {n₀ d n : Nat} {p : Poly} (h : ¬(p.degree = d ∧ p.coef.isSome = true)) (hn : n₀ ≤ n) :
    Stretched n₀ d p ⟨d, some (freeVec n d), if p.degree = d then p.point else none⟩ := by
  rw [Stretched, if_neg h]
  exact ⟨n, hn, rfl⟩

section
variable {n₀ d n : Nat} {c : Cfg} {p x : Poly}

theorem Stretched.degree (h : Stretched n₀ d p x) : x.degree = d := by
  by_cases hd : p.degree = d ∧ p.coef.isSome = true
  · rw [Stretched, if_pos hd] at h
    rw [h, hd.1]
  · rw [Stretched, if_neg hd] at h
    obtain ⟨_, _, rfl⟩ := h
    rfl

theorem Stretched.coef_length (h : Stretched n₀ d p x) (hok : p.Ok c) : ∃ v, x.coef = some v ∧ v.length = d := by
  by_cases hd : p.degree = d ∧ p.coef.isSome = true
  · rw [Stretched, if_pos hd] at h
    obtain ⟨v, hv⟩ := Option.isSome_iff_exists.1 hd.2
    exact ⟨v, by rw [h, hv], (hok.coef v hv).trans hd.1⟩
  · rw [Stretched, if_neg hd] at h
    obtain ⟨n, _, rfl⟩ := h
    exact ⟨_, rfl, freeVec_length n d⟩

theorem Stretched.isSome (h : Stretched n₀ d p x) (hok : p.Ok c) : x.coef.isSome = true := by
  obtain ⟨v, hv, -⟩ := h.coef_length hok
  rw [hv]
  rfl

/-- Before `x` is stretched it is `p`, its coefficients still to be transformed. -/
theorem Stretching.cases (h : Stretching n₀ d p x) (hd : x.degree = d) :
    Stretched n₀ d p x ∨ x = p ∧ p.coef = none := by
  rcases h with rfl | h
  · cases hc : x.coef with
    | none => exact .inr ⟨rfl, rfl⟩
    | some v => exact .inl (by rw [Stretched, if_pos ⟨hd, by rw [hc]; rfl⟩])
  · exact .inl h

/-- Extension brings a descriptor on its way to degree `d`. -/
theorem Stretching.extended (h : Stretching n₀ d p x) (hok : p.Ok c) (hle : p.degree ≤ d) (hn : n₀ ≤ n) :
    Stretching n₀ d p (extended c d false n x) := by
  rcases h with rfl | h
  · by_cases hd : d = x.degree
    · exact .inl (if_pos hd)
    · refine .inr ?_
      have hx : Proofs.extended c d false n x = ⟨d, some (freeVec n d), if x.degree = d then x.point else none⟩ := by
        rw [Proofs.extended, if_neg hd, openVec_false, padded_length hok hle, if_neg (Ne.symm hd)]
      rw [hx]
      exact stretched_free (fun hc => hd hc.1.symm) hn
  · refine .inr ?_
    rw [Proofs.extended, if_pos h.degree.symm]
    exact h

/-- Forcing the coefficients ends the way. -/
theorem Stretching.forcedCoef (h : Stretching n₀ d p x) (hd : x.degree = d) (hok : p.Ok c) (hn : n₀ ≤ n) :
    Stretched n₀ d p (forcedCoef c false n x) := by
  rcases h.cases hd with h | ⟨rfl, hc⟩
  · rw [Proofs.forcedCoef, if_pos (h.isSome hok)]
    exact h
  · have hx : Proofs.forcedCoef c false n x = ⟨d, some (freeVec n d), if x.degree = d then x.point else none⟩ := by
      rw [Proofs.forcedCoef, if_neg (by simp [hc]), openVec_false, coefVec_length hok, hd, if_pos rfl]
    rw [hx]
    exact stretched_free (by simp [hc]) hn

end

/-! Doubling a source in both forms (R265, R269) -/

/-- `x` is of degree `d` with free vectors in both forms, drawn from `n₀` on. -/
def Doubled (n₀ d : Nat) (x : Poly) : Prop := ∃ m n, n₀ ≤ m ∧ n₀ ≤ n ∧ x = ⟨d, some (freeVec m d), some (freeVec n d)⟩

/-- `x` is of degree `d` with a free coefficient form only, or `Doubled`. -/
def Doubling (n₀ d : Nat) (x : Poly) : Prop := (∃ m, n₀ ≤ m ∧ x = ⟨d, some (freeVec m d), none⟩) ∨ Doubled n₀ d x

/-- A source of another degree is stretched to one of degree `d` with a free coefficient form only. -/
theorem Stretching.doubling {n₀ d : Nat} {p x : Poly} (h : Stretching n₀ d p x) (hd : x.degree = d) (hne : p.degree ≠ d) :
    ∃ m, n₀ ≤ m ∧ x = ⟨d, some (freeVec m d), none⟩ := by
  rcases h with rfl | h
  · exact absurd hd hne
  · rw [Stretched, if_neg (fun hc => hne hc.1), if_neg hne] at h
    exact h

theorem Doubling.forcedPoint {n₀ d n : Nat} {c : Cfg} {x : Poly} (h : Doubling n₀ d x) (hpow : isPow2 d = true) (hn : n₀ ≤ n) :
    Doubled n₀ d (forcedPoint c false n x) := by
  rcases h with ⟨m, hm, rfl⟩ | ⟨m, k, hm, hk, rfl⟩
  · have hdeg := eq_two_pow_log2 hpow
    have hlen : (recFft c d.log2 (freeVec m d)).length = d :=
      (recFft_length c _ _ ((freeVec_length m d).trans hdeg)).trans hdeg.symm
    refine ⟨m, n, hm, hn, ?_⟩
    simp only [Proofs.forcedPoint, Option.isSome_none, Bool.false_eq_true, if_false, Poly.pointVec, Option.getD_some,
      openVec_false, hlen]
  · exact ⟨m, k, hm, hk, rfl⟩

/-! `RINIT` -/

/-- The descriptor `i` is valid without coefficients. -/
def coefMissing (s : State) (i : PolyIdx) : Bool := (s.getPoly i).any (·.coef.isNone)

theorem coefMissing_of_poly {s : State} {i : PolyIdx} {p : Poly} (h : s.getPoly i = some p) : coefMissing s i = p.coef.isNone := by
  rw [coefMissing, h]
  rfl

/-- `RINIT` after the coefficients of the sources, where they are missing, are transformed. -/
def rinitDue (pa pb : PolyIdx) (s : State) : Bool := s.rinit || coefMissing s pa || coefMissing s pb

theorem extend_rinit_eq (s : State) (i : PolyIdx) (d : Nat) (reduced : Bool) :
    (s.extend i d reduced).rinit = (s.rinit || (coefMissing s i && !coefMissing (s.extend i d reduced) i)) := by
  cases hp : s.getPoly i with
  | none => simp [State.extend, hp]
  | some p =>
    by_cases hd : d = p.degree
    · simp [State.extend, hp, hd]
    · have hnew : coefMissing (s.extend i d reduced) i = false := by
        rw [coefMissing, (extend_mapsPoly s i d reduced).2, if_pos rfl, hp, Option.map_some, extended, if_neg hd]
        rfl
      rw [hnew, coefMissing_of_poly hp]
      simp [State.extend, hp, hd]

theorem forceCoef_rinit_eq (s : State) (i : PolyIdx) (reduced : Bool) :
    (s.forceCoef i reduced).rinit = (s.rinit || (coefMissing s i && !coefMissing (s.forceCoef i reduced) i)) := by
  cases hp : s.getPoly i with
  | none => simp [State.forceCoef, hp]
  | some p =>
    by_cases hc : p.coef.isSome = true
    · simp [State.forceCoef, hp, hc]
    · have hnew : coefMissing (s.forceCoef i reduced) i = false := by
        rw [coefMissing, (forceCoef_mapsPoly s i reduced).2, if_pos rfl, hp, Option.map_some, forcedCoef, if_neg hc]
        rfl
      have hnone : p.coef.isNone = true := by simpa using hc
      rw [hnew, coefMissing_of_poly hp, hnone]
      simp [State.forceCoef, hp, hc]

/-- An operation on a source that marks `RINIT` when it makes missing coefficients leaves `RINIT` due as it was. -/
theorem rinitDue_of_mapsPoly {pa pb i : PolyIdx} {f : Poly → Poly} {s t : State} (h : MapsPoly i f s t)
    (hi : i = pa ∨ i = pb) (hf : ∀ x, x.coef.isSome = true → (f x).coef.isSome = true)
    (hr : t.rinit = (s.rinit || (coefMissing s i && !coefMissing t i))) : rinitDue pa pb t = rinitDue pa pb s := by
  have hother : ∀ j, j ≠ i → coefMissing t j = coefMissing s j := fun j hj => by rw [coefMissing, h.2, if_neg hj, coefMissing]
  have hself : coefMissing s i = false → coefMissing t i = false := by
    rw [coefMissing, coefMissing, h.2, if_pos rfl]
    cases s.getPoly i with
    | none => exact id
    | some x =>
      intro hx
      simpa [Option.isSome_iff_ne_none] using hf x (by simpa [Option.isSome_iff_ne_none] using hx)
  rw [rinitDue, rinitDue, hr]
  rcases hi with rfl | rfl
  · by_cases hb : pb = i
    · subst hb
      grind
    · rw [hother pb hb]
      grind
  · by_cases ha : pa = i
    · subst ha
      grind
    · rw [hother pa ha]
      grind

theorem extended_isSome (c : Cfg) (d : Nat) (reduced : Bool) (n : Nat) (p : Poly) (h : p.coef.isSome = true) :
    (extended c d reduced n p).coef.isSome = true := by
  unfold extended
  split
  · exact h
  · rfl

theorem rinitDue_extend {pa pb i : PolyIdx} (hi : i = pa ∨ i = pb) (s : State) (d : Nat) :
    rinitDue pa pb (s.extend i d false) = rinitDue pa pb s :=
  rinitDue_of_mapsPoly (extend_mapsPoly s i d false) hi (extended_isSome _ _ _ _) (extend_rinit_eq s i d false)

theorem rinitDue_forceCoef {pa pb i : PolyIdx} (hi : i = pa ∨ i = pb) (s : State) :
    rinitDue pa pb (s.forceCoef i false) = rinitDue pa pb s :=
  rinitDue_of_mapsPoly (forceCoef_mapsPoly s i false) hi (fun _ _ => forcedCoef_isSome _ _ _ _) (forceCoef_rinit_eq s i false)

theorem forcePoint_rinit_of_none {s : State} {i : PolyIdx} {p : Poly} (h : s.getPoly i = some p) (hp : p.point = none)
    (reduced : Bool) : (s.forcePoint i reduced).rinit = true := by
  simp [State.forcePoint, h, hp]

/-! The sources of both commands -/

/-- Both sources extended, with an unreduced operand. -/
def bothExtended (s : State) (pa pb : PolyIdx) (d : Nat) : State := (s.extend pa d false).extend pb d false

/-- Both sources of `PADD` ready, with an unreduced operand. -/
def bothStretched (s : State) (pa pb : PolyIdx) (d : Nat) : State :=
  ((bothExtended s pa pb d).forceCoef pa false).forceCoef pb false

/-- Both sources of `PMUL` ready, with an unreduced operand. -/
def bothDoubled (s : State) (pa pb : PolyIdx) (d : Nat) : State :=
  ((bothExtended s pa pb d).forcePoint pa false).forcePoint pb false

section
variable (s : State) (pa pb : PolyIdx) (d : Nat)

theorem polysOnly_bothExtended : PolysOnly s (bothExtended s pa pb d) := (PolysOnly.extend s pa d).trans (.extend _ pb d)

theorem polysOnly_bothStretched : PolysOnly s (bothStretched s pa pb d) :=
  (polysOnly_bothExtended s pa pb d).trans ((PolysOnly.forceCoef _ pa).trans (.forceCoef _ pb))

theorem polysOnly_bothDoubled : PolysOnly s (bothDoubled s pa pb d) :=
  (polysOnly_bothExtended s pa pb d).trans ((PolysOnly.forcePoint _ pa).trans (.forcePoint _ pb))

theorem rinitDue_bothStretched : rinitDue pa pb (bothStretched s pa pb d) = rinitDue pa pb s := by
  rw [bothStretched, rinitDue_forceCoef (.inr rfl), rinitDue_forceCoef (.inl rfl), bothExtended, rinitDue_extend (.inr rfl),
    rinitDue_extend (.inl rfl)]

end

section
variable {s : State} {pa pb i : PolyIdx} {d : Nat} {r : Poly} (hr : s.getPoly i = some r) (hi : i = pa ∨ i = pb)
  (hok : r.Ok s.cfg) (hle : r.degree ≤ d)
include hr hi hok hle

theorem stretching_bothExtended :
    PolyAt i (fun x => Stretching s.draws d r x ∧ x.degree = d) (bothExtended s pa pb d) := by
  have hpolys := PolysOnly.extend s pa d
  refine (extend_mapsPoly s pa d false).polyAt_pair (Q := Stretching s.draws d r) (extend_mapsPoly _ pb d false) hi
    ⟨r, hr, .inl rfl⟩ (fun x hx => hx.1) (fun x hx => ?_) fun x hx => ?_
  · exact ⟨hx.extended hok hle le_rfl, extended_degree _ _ _ _ _⟩
  · exact ⟨hx.extended (hpolys.cfg_eq ▸ hok) hle hpolys.draws_le, extended_degree _ _ _ _ _⟩

theorem stretched_bothStretched : PolyAt i (Stretched s.draws d r) (bothStretched s pa pb d) := by
  have hpolys := polysOnly_bothExtended s pa pb d
  have hpolys' := hpolys.trans (PolysOnly.forceCoef _ pa)
  refine (forceCoef_mapsPoly _ pa false).polyAt_pair (forceCoef_mapsPoly _ pb false) hi
    (stretching_bothExtended hr hi hok hle) (fun x hx => ⟨.inr hx, hx.degree⟩) (fun x hx => ?_) fun x hx => ?_
  · exact hx.1.forcedCoef hx.2 (hpolys.cfg_eq ▸ hok) hpolys.draws_le
  · exact hx.1.forcedCoef hx.2 (hpolys'.cfg_eq ▸ hok) hpolys'.draws_le

section
variable (hne : r.degree ≠ d)
include hne

theorem halfDoubled_bothExtended :
    PolyAt i (fun x => ∃ m, s.draws ≤ m ∧ x = ⟨d, some (freeVec m d), none⟩) (bothExtended s pa pb d) := by
  obtain ⟨x, hx, hstage, hd⟩ := stretching_bothExtended hr hi hok hle
  exact ⟨x, hx, hstage.doubling hd hne⟩

theorem doubled_bothDoubled (hpow : isPow2 d = true) : PolyAt i (Doubled s.draws d) (bothDoubled s pa pb d) := by
  have hpolys := polysOnly_bothExtended s pa pb d
  have hpolys' := hpolys.trans (PolysOnly.forcePoint _ pa)
  obtain ⟨x, hx, hhalf⟩ := halfDoubled_bothExtended hr hi hok hle hne
  exact (forcePoint_mapsPoly _ pa false).polyAt_pair (forcePoint_mapsPoly _ pb false) hi ⟨x, hx, .inl hhalf⟩ (fun x hx => .inr hx)
    (fun x hx => Doubling.forcedPoint hx hpow hpolys.draws_le) fun x hx => Doubling.forcedPoint hx hpow hpolys'.draws_le

end

theorem coefOf_bothStretched_length : ((bothStretched s pa pb d).coefOf i).length = d := by
  obtain ⟨x, hx, hstretched⟩ := stretched_bothStretched hr hi hok hle
  obtain ⟨v, hv, hlen⟩ := hstretched.coef_length hok
  simpa [State.coefOf, hx, hv] using hlen

theorem pointOf_bothDoubled_length (hne : r.degree ≠ d) (hpow : isPow2 d = true) :
    ((bothDoubled s pa pb d).pointOf i).length = d := by
  obtain ⟨x, hx, m, n, _, _, rfl⟩ := doubled_bothDoubled hr hi hok hle hne hpow
  simp [State.pointOf, hx]

end

/-! The commands -/

theorem destTrap_none {s : State} {pd pa pb : PolyIdx} (h : pd = pa ∨ pd = pb ∨ s.getPoly pd = none) : destTrap s pd pa pb = none := by
  refine if_neg fun ⟨ha, hb, hsome⟩ => ?_
  rcases h with h | h | h
  · exact ha h
  · exact hb h
  · rw [h] at hsome
    cases hsome

section
variable (t : State) {pd : PolyIdx} {d : Nat} {v : List U256}

theorem getPoly_newCoef_same (hpd : isPoly pd = true) (hlen : v.length = d) :
    (t.newCoef pd false d v).getPoly pd = some ⟨d, some (freeVec t.draws d), none⟩ := by
  rw [← hlen]
  exact getPoly_setPoly_same t pd _ hpd

theorem getPoly_newPoint_same (hpd : isPoly pd = true) (hlen : v.length = d) :
    (t.newPoint pd false d v).getPoly pd = some ⟨d, none, some (freeVec t.draws d)⟩ := by
  rw [← hlen]
  exact getPoly_setPoly_same t pd _ hpd

theorem getPoly_newCoef_ne {i : PolyIdx} (h : i ≠ pd) : (t.newCoef pd false d v).getPoly i = t.getPoly i :=
  getPoly_setPoly_ne t pd i _ h

theorem getPoly_newPoint_ne {i : PolyIdx} (h : i ≠ pd) : (t.newPoint pd false d v).getPoly i = t.getPoly i :=
  getPoly_setPoly_ne t pd i _ h

end

/-- Any descriptor a command spares, one past the last included. -/
theorem exec_pd_spared {i : Instr} {s t : State} (h : exec i s = .next t) {j : Nat} (hw : writesPoly i j = false) :
    t.pd[j]? = s.pd[j]? := by
  by_cases hj : j < 8
  · exact exec_polys_spared h hj hw
  · rw [Vector.getElem?_eq_none (by omega), Vector.getElem?_eq_none (by omega)]

theorem degree_lt_double {c : Cfg} {p : Poly} (hok : p.Ok c) {d : Nat} (hle : p.degree ≤ d) : p.degree < 2 * d := by
  have hpos := Nat.two_pow_pos p.degree.log2
  rw [← eq_two_pow_log2 hok.pow2] at hpos
  omega

/-- A completed command whose body differs in the descriptors, the draws and `RINIT` only. -/
theorem next_complete_of_polysOnly {s t : State} (h : PolysOnly s t) : Host.Outcome.next (φ := Fault) (ρ := Refusal) (complete t) =
    .next { s with pd := t.pd, draws := t.draws, rinit := t.rinit, cseq := s.cseq + 1, busy := false } := by
  obtain ⟨_, _, _, _, rfl⟩ := h
  rfl

section
variable {s : State} {pd pa pb : PolyIdx} {p q : Poly} (hp : s.getPoly pa = some p) (hq : s.getPoly pb = some q)
  (hpok : p.Ok s.cfg) (hqok : q.Ok s.cfg)
include hp hq hpok hqok

theorem bothStretched_rinit {d : Nat} (hpd : p.degree ≤ d) (hqd : q.degree ≤ d) :
    (bothStretched s pa pb d).rinit = (s.rinit || p.coef.isNone || q.coef.isNone) := by
  have hdue := rinitDue_bothStretched s pa pb d
  obtain ⟨x, hx, hxs⟩ := stretched_bothStretched hp (pb := pb) (.inl rfl) hpok hpd
  obtain ⟨y, hy, hys⟩ := stretched_bothStretched hq (pa := pa) (.inr rfl) hqok hqd
  rw [rinitDue, rinitDue, coefMissing_of_poly hx, coefMissing_of_poly hy, coefMissing_of_poly hp, coefMissing_of_poly hq] at hdue
  simpa [Option.isNone_eq_false_iff.2 (hxs.isSome hpok), Option.isNone_eq_false_iff.2 (hys.isSome hqok)] using hdue

omit hq hqok in
theorem bothDoubled_rinit {d : Nat} (hpd : p.degree < d) : (bothDoubled s pa pb d).rinit = true := by
  obtain ⟨x, hx, m, -, rfl⟩ := halfDoubled_bothExtended hp (pb := pb) (.inl rfl) hpok hpd.le hpd.ne
  exact forcePoint_rinit _ _ (forcePoint_rinit_of_none hx rfl false)

variable (hdest : pd = pa ∨ pd = pb ∨ s.getPoly pd = none)
  (hopen : allReduced s.cfg p.coefOperands = false ∨ allReduced s.cfg q.coefOperands = false)
include hdest hopen

theorem exec_padd_open (htp : p.coefTrap s.cfg = none) (htq : q.coefTrap s.cfg = none) : ∃ v, v.length = max p.degree q.degree ∧
    exec (.padd pd pa pb) s =
      .next (complete ((bothStretched s pa pb (max p.degree q.degree)).newCoef pd false (max p.degree q.degree) v)) := by
  refine ⟨_, zipWith_length_eq (f := monAdd s.cfg)
    (coefOf_bothStretched_length hp (pb := pb) (.inl rfl) hpok (le_max_left _ _))
    (coefOf_bothStretched_length hq (pa := pa) (.inr rfl) hqok (le_max_right _ _)), ?_⟩
  simp only [exec, execPadd, onPoly_of_poly hp, onPoly_of_poly hq, destTrap_none hdest, htp, htq, Option.or_none, guarded_none,
    settle_ok, paddEffect, Bool.and_eq_false_iff.2 hopen]
  rfl

theorem exec_pmul_open (hfit : 2 * max p.degree q.degree ≤ s.cfg.pMaxDeg)
    (hroot : (2 * max p.degree q.degree).log2 ≤ s.cfg.maxLog) : ∃ v, v.length = 2 * max p.degree q.degree ∧
    exec (.pmul pd pa pb) s =
      .next (complete ((bothDoubled s pa pb (2 * max p.degree q.degree)).newPoint pd false (2 * max p.degree q.degree) v)) := by
  have hpow := isPow2_double (isPow2_max hpok.pow2 hqok.pow2)
  have hlep : p.degree < 2 * max p.degree q.degree := degree_lt_double hpok (le_max_left _ _)
  have hleq : q.degree < 2 * max p.degree q.degree := degree_lt_double hqok (le_max_right _ _)
  have htrap : pmulTrap s.cfg (2 * max p.degree q.degree) = none := by
    rw [pmulTrap, if_neg (Nat.not_lt.2 hfit), rootTrap, if_neg (Nat.not_lt.2 hroot)]
  refine ⟨_, zipWith_length_eq (f := monPro s.cfg)
    (pointOf_bothDoubled_length hp (pb := pb) (.inl rfl) hpok hlep.le hlep.ne hpow)
    (pointOf_bothDoubled_length hq (pa := pa) (.inr rfl) hqok hleq.le hleq.ne hpow), ?_⟩
  simp only [exec, execPmul, onPoly_of_poly hp, onPoly_of_poly hq, destTrap_none hdest, htrap, Option.or_none, guarded_none,
    settle_ok, pmulEffect, Bool.and_eq_false_iff.2 hopen]
  rfl

section
variable (hpd : isPoly pd = true)
include hpd

theorem exec_padd_of_unreduced (htp : p.coef.isSome = true ∨ p.degree.log2 ≤ s.cfg.maxLog)
    (htq : q.coef.isSome = true ∨ q.degree.log2 ≤ s.cfg.maxLog) :
    ∃ u n, exec (.padd pd pa pb) s = .next { s with
        pd := u
        draws := n
        rinit := s.rinit || p.coef.isNone || q.coef.isNone
        cseq := s.cseq + 1
        busy := false } ∧
      (∃ m, s.draws ≤ m ∧ u[pd.toNat]? =
        some (some ⟨max p.degree q.degree, some (freeVec m (max p.degree q.degree)), none⟩)) ∧
      (∀ j, writesPoly (.padd pd pa pb) j = false → u[j]? = s.pd[j]?) ∧
      (pa ≠ pd → ∃ x, Stretched s.draws (max p.degree q.degree) p x ∧ u[pa.toNat]? = some (some x)) ∧
      (pb ≠ pd → ∃ x, Stretched s.draws (max p.degree q.degree) q x ∧ u[pb.toNat]? = some (some x)) := by
  obtain ⟨v, hlen, hexec⟩ := exec_padd_open hp hq hpok hqok hdest hopen (coefTrap_none htp) (coefTrap_none htq)
  have honly := polysOnly_bothStretched s pa pb (max p.degree q.degree)
  have hrinit := bothStretched_rinit hp hq hpok hqok (le_max_left p.degree q.degree) (le_max_right p.degree q.degree)
  obtain ⟨x, hx, hxs⟩ := stretched_bothStretched hp (pb := pb) (.inl rfl) hpok (le_max_left p.degree q.degree)
  obtain ⟨y, hy, hys⟩ := stretched_bothStretched hq (pa := pa) (.inr rfl) hqok (le_max_right p.degree q.degree)
  have hothers := fun j => exec_pd_spared hexec (j := j)
  generalize bothStretched s pa pb (max p.degree q.degree) = t at *
  rw [next_complete_of_polysOnly (honly.trans (.newCoef t pd _ v)), show (t.newCoef pd false _ v).rinit = _ from hrinit] at hexec
  refine ⟨_, _, hexec, ⟨t.draws, honly.draws_le, pd_getElem_of_getPoly (getPoly_newCoef_same t hpd hlen)⟩, hothers,
    fun hne => ⟨x, hxs, pd_getElem_of_getPoly ?_⟩, fun hne => ⟨y, hys, pd_getElem_of_getPoly ?_⟩⟩
  · rw [getPoly_newCoef_ne t hne, hx]
  · rw [getPoly_newCoef_ne t hne, hy]

theorem exec_pmul_of_unreduced (hfit : 2 * max p.degree q.degree ≤ s.cfg.pMaxDeg)
    (hroot : (2 * max p.degree q.degree).log2 ≤ s.cfg.maxLog) :
    ∃ u n, exec (.pmul pd pa pb) s = .next { s with pd := u, draws := n, rinit := true, cseq := s.cseq + 1, busy := false } ∧
      (∃ m, s.draws ≤ m ∧ u[pd.toNat]? =
        some (some ⟨2 * max p.degree q.degree, none, some (freeVec m (2 * max p.degree q.degree))⟩)) ∧
      (∀ j, writesPoly (.pmul pd pa pb) j = false → u[j]? = s.pd[j]?) ∧
      (pa ≠ pd → ∃ x, Doubled s.draws (2 * max p.degree q.degree) x ∧ u[pa.toNat]? = some (some x)) ∧
      (pb ≠ pd → ∃ x, Doubled s.draws (2 * max p.degree q.degree) x ∧ u[pb.toNat]? = some (some x)) := by
  obtain ⟨v, hlen, hexec⟩ := exec_pmul_open hp hq hpok hqok hdest hopen hfit hroot
  have hpow := isPow2_double (isPow2_max hpok.pow2 hqok.pow2)
  have hlep := degree_lt_double hpok (le_max_left p.degree q.degree)
  have hleq := degree_lt_double hqok (le_max_right p.degree q.degree)
  have honly := polysOnly_bothDoubled s pa pb (2 * max p.degree q.degree)
  have hrinit := bothDoubled_rinit hp (pb := pb) hpok hlep
  obtain ⟨x, hx, hxs⟩ := doubled_bothDoubled hp (pb := pb) (.inl rfl) hpok hlep.le hlep.ne hpow
  obtain ⟨y, hy, hys⟩ := doubled_bothDoubled hq (pa := pa) (.inr rfl) hqok hleq.le hleq.ne hpow
  have hothers := fun j => exec_pd_spared hexec (j := j)
  generalize bothDoubled s pa pb (2 * max p.degree q.degree) = t at *
  rw [next_complete_of_polysOnly (honly.trans (.newPoint t pd _ v)), show (t.newPoint pd false _ v).rinit = _ from hrinit] at hexec
  refine ⟨_, _, hexec, ⟨t.draws, honly.draws_le, pd_getElem_of_getPoly (getPoly_newPoint_same t hpd hlen)⟩, hothers,
    fun hne => ⟨x, hxs, pd_getElem_of_getPoly ?_⟩, fun hne => ⟨y, hys, pd_getElem_of_getPoly ?_⟩⟩
  · rw [getPoly_newPoint_ne t hne, hx]
  · rw [getPoly_newPoint_ne t hne, hy]

end

end

end Sys2Proof.Proofs
end

section
/-! Every command with an unreduced operand, together (93_implementation_defined.md U1). -/

namespace Sys2Proof.Proofs

open Sys2Proof.Machine Sys2Proof.Laws

theorem Stretched.getElem {n₀ d : Nat} {p x : Poly} (h : Stretched n₀ d p x) {o : Option (Option Poly)} (ho : o = some (some x)) :
    if p.degree = d ∧ p.coef.isSome = true then o = some (some p)
    else ∃ n, n₀ ≤ n ∧ o = some (some ⟨d, some (freeVec n d), if p.degree = d then p.point else none⟩) := by
  by_cases hd : p.degree = d ∧ p.coef.isSome = true
  · rw [Stretched, if_pos hd] at h
    rw [if_pos hd, ho, h]
  · rw [Stretched, if_neg hd] at h
    obtain ⟨n, hn, rfl⟩ := h
    rw [if_neg hd]
    exact ⟨n, hn, ho⟩

theorem Doubled.getElem {n₀ d : Nat} {x : Poly} (h : Doubled n₀ d x) {o : Option (Option Poly)} (ho : o = some (some x)) :
    ∃ m n, n₀ ≤ m ∧ n₀ ≤ n ∧ o = some (some ⟨d, some (freeVec m d), some (freeVec n d)⟩) := by
  obtain ⟨m, n, hm, hn, rfl⟩ := h
  exact ⟨m, n, hm, hn, ho⟩

theorem writesPoly_pair_false {i pd pa pb : Nat} (hd : i ≠ pd) (ha : i ≠ pa) (hb : i ≠ pb) :
    (i == pd || i == pa || i == pb) = false := by
  simp [hd, ha, hb]

/-- Settles O47: each command's own lemma on an unreduced operand; the checks pass as on reduced ones and opening makes the
vectors free. -/
theorem unreducedOperandsGiveFreeValues : Obligations.UnreducedOperandsGiveFreeValues := by
  unfold Obligations.UnreducedOperandsGiveFreeValues
  refine ⟨?elements, ?transforms, ?jnew, ?jobs, ?jmerge, fun _ _ _ _ => exec_jrun_shape,
    fun _ _ _ _ _ _ _ => exec_jrun_of_unreduced, ?making, ?onePoly, ?twoPolys⟩
  case elements =>
    intro s fd fa fb _ _ _
    exact ⟨exec_binary_of_unreduced, exec_unary_of_unreduced⟩
  case transforms =>
    intro s src dst len k hlen hk hsrc hdst
    exact ⟨exec_transforms_of_unreduced hlen hk hsrc hdst, fun fw => exec_fftr2_of_unreduced hlen hk hsrc hdst⟩
  case jnew =>
    intro s js src len jobId k _ hempty hlen hfit hsrc hr
    exact exec_jnew_of_unreduced jobId hempty hlen hfit hsrc hr
  case jobs =>
    intro s js jo dst target e k _ _ he hk hr
    exact ⟨fun g t htarget ht hkind => exec_jfork_of_unreduced he hk hr htarget ht hkind, exec_jfft_of_unreduced he hk hr,
      exec_jst_of_unreduced he hk hr⟩
  case jmerge =>
    intro s js jo a b k _ _ ha hb hka hkb hmask hk hfit hroot hr
    exact exec_jmerge_of_unreduced ha hb hka hkb hmask hk hfit hroot hr
  case making =>
    intro s pd src len k _ hempty hfit hsrc hr
    exact ⟨exec_pnew_of_unreduced hempty hfit hsrc hr, exec_pnewp_of_unreduced hempty hfit hsrc hr⟩
  case onePoly =>
    intro s pa fd fx target dst p _ _ _ hp hok
    refine ⟨fun hroot => ⟨fun hr => ⟨fun k htarget hlt hfit => ?_, ?_, fun hdst => ?_⟩, fun hr => ?_⟩,
      fun hroot hr => ⟨?_, fun hdst => ?_⟩⟩
    · exact exec_pext_of_unreduced hp hok (coefTrap_none hroot) hr htarget hlt hfit
    · exact exec_pcoef_of_unreduced hp hok (coefTrap_none hroot) hr
    · exact exec_pstc_of_unreduced hp hok (coefTrap_none hroot) hr hdst
    · exact exec_peval_of_unreduced hp hok (coefTrap_none hroot) hr
    · exact exec_ppoint_of_unreduced hp hok (pointTrap_none hroot) hr
    · exact exec_pstp_of_unreduced hp hok (pointTrap_none hroot) hr hdst
  case twoPolys =>
    intro s pd pa pb p q hpd _ _ hp hq hdest hpok hqok hr
    refine ⟨fun htp htq => ?_, fun hfit hroot => ?_⟩
    · obtain ⟨u, n, hexec, hmade, hothers, ha, hb⟩ := exec_padd_of_unreduced hp hq hpok hqok hdest hr hpd htp htq
      refine ⟨u, n, hexec, hmade, fun i hid hia hib => hothers i (writesPoly_pair_false hid hia hib), fun hne => ?_, fun hne => ?_⟩
      · obtain ⟨x, hx, hget⟩ := ha hne
        exact hx.getElem hget
      · obtain ⟨x, hx, hget⟩ := hb hne
        exact hx.getElem hget
    · obtain ⟨u, n, hexec, hmade, hothers, ha, hb⟩ := exec_pmul_of_unreduced hp hq hpok hqok hdest hr hpd hfit hroot
      refine ⟨u, n, hexec, hmade, fun i hid hia hib => hothers i (writesPoly_pair_false hid hia hib), fun hne => ?_, fun hne => ?_⟩
      · obtain ⟨x, hx, hget⟩ := ha hne
        exact hx.getElem hget
      · obtain ⟨x, hx, hget⟩ := hb hne
        exact hx.getElem hget

end Sys2Proof.Proofs
end

section
/-! The convolution of two vectors and the transform: pointwise products of values are the values of the product, so the inverse
transform of the pointwise product of two transforms is the convolution (45_polynomial.md R270). -/

namespace Sys2Proof.Proofs

open Sys2Proof.Machine Sys2Proof.Laws

/-- The values of two sequences multiply to the value of their convolution, when it reaches past every nonzero product. -/
theorem sum_convolution {F : Type} [CommRing F] {n : Nat} (a b : Nat → F) (x : F) (h : ∀ i j, n ≤ i + j → a i * b j = 0) :
    ∑ m ∈ Finset.range n, (∑ i ∈ Finset.range (m + 1), a i * b (m - i)) * x ^ m =
      (∑ i ∈ Finset.range n, a i * x ^ i) * ∑ j ∈ Finset.range n, b j * x ^ j := by
  have hterm : ∀ m ∈ Finset.range n, (∑ i ∈ Finset.range (m + 1), a i * b (m - i)) * x ^ m =
      ∑ i ∈ Finset.range (m + 1), a i * b (m - i) * x ^ (i + (m - i)) := by
    intro m _
    rw [Finset.sum_mul]
    refine Finset.sum_congr rfl fun i hi => ?_
    rw [Nat.add_sub_cancel' (Nat.lt_succ_iff.1 (Finset.mem_range.1 hi))]
  have hrow : ∀ i ∈ Finset.range n, ∑ j ∈ Finset.range (n - i), a i * b j * x ^ (i + j) =
      ∑ j ∈ Finset.range n, a i * x ^ i * (b j * x ^ j) := by
    intro i _
    refine (Finset.sum_subset (Finset.range_subset_range.2 (Nat.sub_le n i)) fun j _ hj => ?_).trans
      (Finset.sum_congr rfl fun j _ => by ring)
    rw [h i j (by simpa [add_comm] using hj), zero_mul]
  rw [Finset.sum_congr rfl hterm, Finset.sum_range_diag_flip n fun i j => a i * b j * x ^ (i + j),
    Finset.sum_congr rfl hrow, Finset.sum_mul_sum]

theorem getD_append_zeros (v : List U256) (m j : Nat) : (v ++ List.replicate m 0).getD j 0 = v.getD j 0 := by
  by_cases hj : j < v.length
  · rw [List.getD_append _ _ _ _ hj]
  · rw [List.getD_append_right _ _ _ _ (by omega), List.getD_eq_default v _ (by omega)]
    rw [List.getD_eq_getElem?_getD, List.getElem?_replicate]
    split <;> rfl

section
variable {c : Cfg}

/-- The sum of `evalAt_eq_sum` may run past the vector. -/
theorem evalAt_eq_sum_range (x : ZMod c.n.toNat) {v : List U256} {n : Nat} (h : v.length ≤ n) :
    evalAt c x v = ∑ j ∈ Finset.range n, c.denote (v.getD j 0) * x ^ j := by
  rw [evalAt_eq_sum]
  refine Finset.sum_subset (Finset.range_subset_range.2 h) fun j _ hj => ?_
  rw [List.getD_eq_default _ _ (by simpa using hj), denote_zero, zero_mul]

theorem evalAt_append_zeros (x : ZMod c.n.toNat) (v : List U256) (m : Nat) :
    evalAt c x (v ++ List.replicate m 0) = evalAt c x v := by
  rw [evalAt_eq_sum, evalAt_eq_sum_range x (v := v) (n := (v ++ List.replicate m 0).length) (by simp)]
  exact Finset.sum_congr rfl fun j _ => by rw [getD_append_zeros]

@[simp] theorem convolve_length (n : Nat) (a b : List U256) : (convolve c n a b).length = n := by simp [convolve]

variable (hc : c.WellFormed) {a b : List U256} (ha : allReduced c a = true) (hb : allReduced c b = true)
include hc ha

theorem convolve_getD_spec {n k : Nat} (hk : k < n) : ((convolve c n a b).getD k 0).toNat < c.n.toNat ∧
    c.denote ((convolve c n a b).getD k 0) =
      ∑ i ∈ Finset.range (k + 1), c.denote (a.getD i 0) * c.denote (b.getD (k - i) 0) := by
  have hra := allReduced_getD hc ha
  rw [convolve, map_range_getD _ hk]
  obtain ⟨hlt, hsum⟩ := foldl_monAdd_spec hc (f := fun i => monPro c (a.getD i 0) (b.getD (k - i) 0))
    (fun i => monPro_lt hc (hra i) _) (k + 1)
  exact ⟨hlt, hsum.trans (Finset.sum_congr rfl fun i _ => denote_monPro hc (hra i) _)⟩

theorem convolve_allReduced (n : Nat) : allReduced c (convolve c n a b) = true := by
  rw [allReduced_iff]
  intro x hx
  obtain ⟨k, hk, rfl⟩ := List.mem_iff_getElem.1 hx
  rw [← List.getD_eq_getElem _ 0 hk]
  exact (convolve_getD_spec hc ha (by rwa [convolve_length] at hk)).1

/-- The convolution is the product of the polynomials, where it is long enough to hold it. -/
theorem evalAt_convolve {n : Nat} (hn : a.length + b.length ≤ n) (x : ZMod c.n.toNat) :
    evalAt c x (convolve c n a b) = evalAt c x a * evalAt c x b := by
  have hpast : ∀ i j, n ≤ i + j → c.denote (a.getD i 0) * c.denote (b.getD j 0) = 0 := by
    intro i j hij
    rcases Nat.lt_or_ge i a.length with hi | hi
    · rw [List.getD_eq_default b _ (by omega), denote_zero, mul_zero]
    · rw [List.getD_eq_default a _ hi, denote_zero, zero_mul]
  rw [evalAt_eq_sum_range x (v := a) (show a.length ≤ n by omega), evalAt_eq_sum_range x (v := b) (show b.length ≤ n by omega),
    ← sum_convolution _ _ x hpast, evalAt_eq_sum, convolve_length]
  exact Finset.sum_congr rfl fun k hk => by rw [(convolve_getD_spec hc ha (Finset.mem_range.1 hk)).2]

include hb

/-- R270, for any length that holds the product. -/
theorem invFft_pointwise_eq_convolve {k : Nat} (hk : k ≤ c.maxLog) (hab : a.length + b.length ≤ 2 ^ k) (m n : Nat) :
    invFft c k (List.zipWith (monPro c) (dft c k (a ++ List.replicate m 0)) (dft c k (b ++ List.replicate n 0))) =
      convolve c (2 ^ k) a b := by
  have hra : allReduced c (a ++ List.replicate m 0) = true := allReduced_append.2 ⟨ha, allReduced_zeros hc m⟩
  have hrb : allReduced c (b ++ List.replicate n 0) = true := allReduced_append.2 ⟨hb, allReduced_zeros hc n⟩
  have hconv := convolve_allReduced hc ha (b := b) (2 ^ k)
  have hpoint := allReduced_getD hc (dft_allReduced hc hra hk)
  have hproduct : List.zipWith (monPro c) (dft c k (a ++ List.replicate m 0)) (dft c k (b ++ List.replicate n 0)) =
      dft c k (convolve c (2 ^ k) a b) := by
    refine eq_dft_of_denote hc hconv hk (zipWith_length_eq (dft_length c k _) (dft_length c k _))
      (allReduced_zipWith fun x hx y _ => monPro_lt hc ((allReduced_iff c _).1 (dft_allReduced hc hra hk) x hx) y)
      fun i hi => ?_
    rw [zipWith_getD _ (by rwa [dft_length]) (by rwa [dft_length]), denote_monPro hc (hpoint i), denote_dft hc hra hk hi,
      denote_dft hc hrb hk hi, evalAt_append_zeros, evalAt_append_zeros, evalAt_convolve hc ha hab]
  rw [hproduct, invFft_dft hc hk (convolve_length _ _ _) hconv]

end

/-- Settles O33: both transforms evaluate, and the values of the factors multiply to those of the convolution. -/
theorem pointwiseProductIsTheConvolution : Obligations.PointwiseProductIsTheConvolution := by
  intro c k a b hc hk ha hb hra hrb pad
  have hpad : ∀ v : List U256, v.length = 2 ^ k → allReduced c v = true → recFft c (k + 1) (pad v) = dft c (k + 1) (pad v) := by
    intro v hv hr
    refine recFft_eq_dft hc (allReduced_append.2 ⟨hr, allReduced_zeros hc _⟩) hk ?_
    rw [List.length_append, hv, List.length_replicate]
    omega
  rw [hpad a ha hra, hpad b hb hrb]
  exact invFft_pointwise_eq_convolve hc hra hrb hk (by omega) _ _

end Sys2Proof.Proofs
end

section
/-! `PNEW`, `PNEWP`, `PFREE`, `PQRY` (45_polynomial.md R263, R264, R274, R277): which check fails first, and the descriptor a
command on reduced elements makes. -/

namespace Sys2Proof.Proofs

open Sys2Proof.Machine Sys2Proof.Laws

/-! The checks -/

section
variable {s : State} {pd : PolyIdx} {src len : Word}

theorem pnewTrap_of_valid (h : (s.getPoly pd).isSome = true) : pnewTrap s pd src len = some (trap .polyState pd.toNat 1 0) :=
  if_pos h

theorem pnewpTrap_of_valid (h : (s.getPoly pd).isSome = true) : pnewpTrap s pd src len = some (trap .polyState pd.toNat 1 0) :=
  if_pos h

variable (hempty : s.getPoly pd = none)
include hempty

theorem pnewTrap_of_too_long (h : s.cfg.pMaxDeg < ceilPow2 len.toNat) :
    pnewTrap s pd src len = some (trap .capacity (ceilPow2 len.toNat) s.cfg.pMaxDeg 2) := by
  simp [pnewTrap, hempty, h]

/-- A free descriptor and a degree it takes leave the source's range to check. -/
theorem pnewTrap_of_count (h : ceilPow2 len.toNat ≤ s.cfg.pMaxDeg) :
    pnewTrap s pd src len = boundsTrap s src.toNat len.toNat := by
  simp [pnewTrap, hempty, Nat.not_lt.2 h]

theorem pnewpTrap_of_not_pow2 (h : ∀ k, len.toNat ≠ 2 ^ k) :
    pnewpTrap s pd src len = some (trap .nPow2 len.toNat 0x61 0) := by
  have hpow : ¬ isPow2 len.toNat = true := fun hp => h _ (eq_two_pow_log2 hp)
  simp [pnewpTrap, hempty, hpow]

variable {k : Nat} (hlen : len.toNat = 2 ^ k)
include hlen

theorem pnewpTrap_of_too_long (h : s.cfg.pMaxDeg < 2 ^ k) :
    pnewpTrap s pd src len = some (trap .capacity (2 ^ k) s.cfg.pMaxDeg 2) := by
  simp [pnewpTrap, hempty, hlen, isPow2_pow, h]

theorem pnewpTrap_of_length (h : 2 ^ k ≤ s.cfg.pMaxDeg) :
    pnewpTrap s pd src len = boundsTrap s src.toNat len.toNat := by
  simp [pnewpTrap, hempty, hlen, isPow2_pow, Nat.not_lt.2 h]

end

/-! The commands -/

/-- The two flags of a descriptor are bits 1 and 2 of its status (R274). -/
theorem polyStatus_eq (p : Poly) : polyStatus p = BitVec.ofNat 32 (1 + 2 * p.coef.isSome.toNat + 4 * p.point.isSome.toNat) := by
  cases hc : p.coef.isSome <;> cases hp : p.point.isSome <;> simp [polyStatus, word, hc, hp]

theorem exec_pqry_of_none {s : State} {pa : PolyIdx} (h : s.getPoly pa = none) :
    exec (.pqry pa) s = .next (complete (s.setRes 0 0 0)) := by
  simp only [exec, execPqry, h, settle_ok]

theorem exec_pqry_of_poly {s : State} {pa : PolyIdx} {p : Poly} (h : s.getPoly pa = some p) :
    exec (.pqry pa) s = .next (complete (s.setRes (polyStatus p) (word p.degree) 0)) := by
  simp only [exec, execPqry, h, settle_ok]

section
variable {s : State} {pd : PolyIdx} {src len : Word} (hr : allReduced s.cfg (s.memRead src.toNat len.toNat) = true)
include hr

theorem exec_pnew_of_reduced (htrap : pnewTrap s pd src len = none) :
    exec (.pnew pd src len) s = .next (complete (s.setPoly pd (some ⟨ceilPow2 len.toNat,
      some (s.memRead src.toNat len.toNat ++ List.replicate (ceilPow2 len.toNat - len.toNat) 0), none⟩))) := by
  simp only [exec, execPnew, htrap, hr, guarded_none, settle_ok, State.newCoef, openVec_true]
  rfl

theorem exec_pnewp_of_reduced (htrap : pnewpTrap s pd src len = none) :
    exec (.pnewp pd src len) s =
      .next (complete (s.setPoly pd (some ⟨len.toNat, none, some (s.memRead src.toNat len.toNat)⟩))) := by
  simp only [exec, execPnewp, htrap, hr, guarded_none, settle_ok, State.newPoint, openVec_true]
  rfl

end

/-- Settles O54: the first check that fails gives the fault, and a reduced source is taken as it is. -/
theorem polynomialsAreMadeAndFreed : Obligations.PolynomialsAreMadeAndFreed := by
  intro s pd src len _
  refine ⟨rfl, exec_pqry_of_none, fun p hp => ?valid, fun hempty k hle hmin => ?pnew,
    fun hempty hpow => settle_guarded_of_trap (pnewpTrap_of_not_pow2 hempty hpow), fun hempty k hlen => ?pnewp⟩
  case valid =>
    have hsome : (s.getPoly pd).isSome = true := by rw [hp]; rfl
    refine ⟨?_, settle_guarded_of_trap (pnewTrap_of_valid hsome), settle_guarded_of_trap (pnewpTrap_of_valid hsome)⟩
    rw [exec_pqry_of_poly hp, polyStatus_eq]
    rfl
  case pnew =>
    have hceil := ceilPow2_eq hle hmin
    rw [← hceil]
    refine ⟨fun hlong => settle_guarded_of_trap (pnewTrap_of_too_long hempty hlong), fun hfit hout => ?_, fun hfit hin hr => ?_⟩
    · exact settle_guarded_of_trap ((pnewTrap_of_count hempty hfit).trans (boundsTrap_of_not_fits hout))
    · exact exec_pnew_of_reduced hr ((pnewTrap_of_count hempty hfit).trans (boundsTrap_of_fits hin))
  case pnewp =>
    refine ⟨fun hlong => settle_guarded_of_trap (pnewpTrap_of_too_long hempty hlen hlong), fun hfit hout => ?_,
      fun hfit hin hr => ?_⟩
    · have htrap := pnewpTrap_of_length (src := src) hempty hlen hfit
      exact settle_guarded_of_trap (htrap.trans (boundsTrap_of_not_fits (by rwa [hlen])))
    · have htrap := pnewpTrap_of_length (src := src) hempty hlen hfit
      rw [boundsTrap_of_fits (by rwa [hlen])] at htrap
      rw [← hlen] at hr ⊢
      exact exec_pnewp_of_reduced hr htrap

end Sys2Proof.Proofs
end

section
/-! The operations on descriptors when every element operand is reduced (45_polynomial.md R260, R262, R265): nothing is opened, so
that each is a function of the descriptor and leaves the count of free values alone. -/

namespace Sys2Proof.Proofs

open Sys2Proof.Machine Sys2Proof.Laws

/-! Passes -/

/-- An operation on a descriptor as a function: what it makes of the descriptor, and whether it transforms, so that `RINIT` is set.
Done again it changes nothing. -/
structure PolyPass where
  make : Poly → Poly
  due : Poly → Bool
  make_make : ∀ p, make (make p) = make p
  due_make : ∀ p, due (make p) = false

/-- The pass on the descriptor `i` of a state. -/
def PolyPass.run (P : PolyPass) (i : PolyIdx) (s : State) : State :=
  match s.getPoly i with
  | none => s
  | some p => { s with pd := s.pd.setIfInBounds i.toNat (some (P.make p)), rinit := s.rinit || P.due p }

/-- `force_coef` (R262). -/
def coefPass (c : Cfg) : PolyPass where
  make p := { p with coef := some (p.coefVec c) }
  due p := p.coef.isNone
  make_make _ := rfl
  due_make _ := rfl

/-- `force_point` (R262). -/
def pointPass (c : Cfg) : PolyPass where
  make p := { p with point := some (p.pointVec c) }
  due p := p.point.isNone
  make_make _ := rfl
  due_make _ := rfl

/-- `extend` to degree `d` (R265). -/
def extendPass (c : Cfg) (d : Nat) : PolyPass where
  make p := extended c d true 0 p
  due p := !decide (d = p.degree) && p.coef.isNone
  make_make p := if_pos (extended_degree c d true 0 p).symm
  due_make p := by simp

section
variable {s : State} {i : PolyIdx} {p : Poly}

theorem PolyPass.run_of_poly (P : PolyPass) (h : s.getPoly i = some p) : P.run i s =
    { s with pd := s.pd.setIfInBounds i.toNat (some (P.make p)), rinit := s.rinit || P.due p } := by
  simp only [PolyPass.run, h]

@[simp] theorem PolyPass.run_cfg (P : PolyPass) (i : PolyIdx) (s : State) : (P.run i s).cfg = s.cfg := by
  unfold PolyPass.run
  split <;> rfl

/-- A pass that leaves the descriptor as it is, and transforms nothing, changes nothing. -/
theorem PolyPass.run_of_fixed (P : PolyPass) (h : s.getPoly i = some p) (hmake : P.make p = p) (hdue : P.due p = false) :
    P.run i s = s := by
  rw [P.run_of_poly h, hmake, hdue, setPoly_self h, Bool.or_false]

theorem forceCoef_true (s : State) (i : PolyIdx) : s.forceCoef i true = (coefPass s.cfg).run i s := by
  cases h : s.getPoly i with
  | none => simp only [State.forceCoef, PolyPass.run, h]
  | some p =>
    obtain ⟨d, coef, point⟩ := p
    cases coef with
    | some v => simpa [State.forceCoef, h] using ((coefPass s.cfg).run_of_fixed h rfl rfl).symm
    | none =>
      simp only [State.forceCoef, PolyPass.run, h, coefPass, Option.isSome_none, Option.isNone_none, Bool.false_eq_true, if_false,
        Bool.or_true, openVec_true]
      rfl

theorem forcePoint_true (s : State) (i : PolyIdx) : s.forcePoint i true = (pointPass s.cfg).run i s := by
  cases h : s.getPoly i with
  | none => simp only [State.forcePoint, PolyPass.run, h]
  | some p =>
    obtain ⟨d, coef, point⟩ := p
    cases point with
    | some v => simpa [State.forcePoint, h] using ((pointPass s.cfg).run_of_fixed h rfl rfl).symm
    | none =>
      simp only [State.forcePoint, PolyPass.run, h, pointPass, Option.isSome_none, Option.isNone_none, Bool.false_eq_true, if_false,
        Bool.or_true, openVec_true]
      rfl

theorem extend_true (s : State) (i : PolyIdx) (d : Nat) : s.extend i d true = (extendPass s.cfg d).run i s := by
  cases h : s.getPoly i with
  | none => simp only [State.extend, PolyPass.run, h]
  | some p =>
    by_cases hd : d = p.degree
    · have hfixed := (extendPass s.cfg d).run_of_fixed h (if_pos hd) (by simp [extendPass, hd])
      rw [hfixed]
      simp only [State.extend, h, if_pos hd]
    · simp only [State.extend, PolyPass.run, h, extendPass, extended, if_neg hd, decide_eq_false hd, Bool.not_false, Bool.true_and,
        openVec_true]
      rfl

variable (h : s.getPoly i = some p)
include h

/-! Reading a descriptor after a pass -/

theorem PolyPass.getPoly_run (P : PolyPass) (j : PolyIdx) :
    (P.run i s).getPoly j = if j = i then some (P.make p) else s.getPoly j := by
  rw [P.run_of_poly h]
  exact getPoly_setPoly h _ j

theorem coefOf_coefPass (c : Cfg) : ((coefPass c).run i s).coefOf i = p.coefVec c := by
  rw [State.coefOf, PolyPass.getPoly_run h, if_pos rfl]
  rfl

theorem pointOf_pointPass (c : Cfg) : ((pointPass c).run i s).pointOf i = p.pointVec c := by
  rw [State.pointOf, PolyPass.getPoly_run h, if_pos rfl]
  rfl

/-! Forms that need no forcing -/

theorem forceCoef_of_isSome (hc : p.coef.isSome = true) (reduced : Bool) : s.forceCoef i reduced = s := by
  simp only [State.forceCoef, h, hc, if_true]

theorem forcePoint_of_isSome (hp : p.point.isSome = true) (reduced : Bool) : s.forcePoint i reduced = s := by
  simp only [State.forcePoint, h, hp, if_true]

theorem extend_to_degree (reduced : Bool) : s.extend i p.degree reduced = s := by
  simp only [State.extend, h, if_true]

end

/-! The checks on one descriptor -/

section
variable {c : Cfg} {p : Poly}

theorem coefTrap_of_missing (h : p.coef = none) (hroot : c.maxLog < p.degree.log2) :
    p.coefTrap c = some (trap .rootOrder p.degree 0 0) := by
  simp [Poly.coefTrap, rootTrap, h, hroot]

theorem pointTrap_of_missing (h : p.point = none) (hroot : c.maxLog < p.degree.log2) :
    p.pointTrap c = some (trap .rootOrder p.degree 0 0) := by
  simp [Poly.pointTrap, rootTrap, h, hroot]

/-- The elements read for the coefficients are the coefficients, or the points they are computed from. -/
theorem coefVec_allReduced_of_operands (hc : c.WellFormed) (h : allReduced c p.coefOperands = true) :
    allReduced c (p.coefVec c) = true := by
  unfold Poly.coefVec
  split
  · next v hv => simpa [Poly.coefOperands, hv] using h
  · exact invFft_allReduced hc _ _

end

section
variable {s : State} {i : PolyIdx}

theorem settle_onPoly_of_none (h : s.getPoly i = none) (body : Poly → Except Trap State) :
    settle s (onPoly s i body) = .next (raise (trap .polyState i.toNat 2 0) s) := by
  simp only [onPoly, h, settle_error]

theorem settle_onPoly_of_trap {p : Poly} (h : s.getPoly i = some p) {check : Poly → Option Trap} {effect : Poly → State} {t : Trap}
    (ht : check p = some t) : settle s (onPoly s i fun x => guarded (check x) (effect x)) = .next (raise t s) := by
  rw [onPoly_of_poly h, settle_guarded_of_trap ht]

end

end Sys2Proof.Proofs
end

section
/-! `PEXT`, `PCOEF`, `PPOINT` (45_polynomial.md R260, R262, R265, R266, R272, R273): which check fails first, and the form a command
on reduced elements adds. -/

namespace Sys2Proof.Proofs

open Sys2Proof.Machine Sys2Proof.Laws

/-! The checks of `PEXT` -/

section
variable {s : State} {p : Poly} {d k m : Nat} (hdeg : p.degree = 2 ^ m)
include hdeg

theorem pextTrap_of_degree (h : ∀ k, d = 2 ^ k → k < m) : pextTrap s p d = some (trap .degree d p.degree 0) := by
  refine if_pos ?_
  by_cases hpow : isPow2 d = true
  · obtain ⟨k, rfl⟩ := (isPow2_iff d).1 hpow
    have hlt : 2 ^ k < 2 ^ m := Nat.pow_lt_pow_right one_lt_two (h k rfl)
    simp [hdeg, hlt]
  · simp [hpow]

variable (hle : m ≤ k)
include hle

theorem pextTrap_of_capacity (h : s.cfg.pMaxDeg < 2 ^ k) :
    pextTrap s p (2 ^ k) = some (trap .capacity (2 ^ k) s.cfg.pMaxDeg 2) := by
  have hpow : ¬ 2 ^ k < 2 ^ m := Nat.not_lt.2 (Nat.pow_le_pow_right two_pos hle)
  simp [pextTrap, isPow2_pow, hdeg, hpow, h]

variable (hfit : 2 ^ k ≤ s.cfg.pMaxDeg)
include hfit

/-- A degree the store takes leaves the root to check, and only where something is to be extended. -/
theorem pextTrap_of_fits : pextTrap s p (2 ^ k) = if 2 ^ k = p.degree then none else p.coefTrap s.cfg := by
  have hpow : ¬ 2 ^ k < 2 ^ m := Nat.not_lt.2 (Nat.pow_le_pow_right two_pos hle)
  simp [pextTrap, isPow2_pow, hdeg, hpow, Nat.not_lt.2 hfit]

end

/-! The commands on a valid descriptor -/

section
variable {s : State} {pd : PolyIdx} {p : Poly} (hp : s.getPoly pd = some p)
include hp

theorem exec_pext_of_poly {target : Word} (htrap : pextTrap s p target.toNat = none) : exec (.pext pd target) s =
    .next (complete (s.extend pd target.toNat (allReduced s.cfg p.coefOperands))) := by
  simp only [exec, execPext, onPoly_of_poly hp, htrap, guarded_none, settle_ok]

theorem exec_pcoef_of_poly (htrap : p.coefTrap s.cfg = none) : exec (.pcoef pd) s =
    .next (complete (s.forceCoef pd (allReduced s.cfg p.coefOperands))) := by
  simp only [exec, execPcoef, onPoly_of_poly hp, htrap, guarded_none, settle_ok]

theorem exec_ppoint_of_poly (htrap : p.pointTrap s.cfg = none) : exec (.ppoint pd) s =
    .next (complete (s.forcePoint pd (allReduced s.cfg p.pointOperands))) := by
  simp only [exec, execPpoint, onPoly_of_poly hp, htrap, guarded_none, settle_ok]

/-! Forms already there -/

theorem exec_pcoef_of_present (h : p.coef.isSome = true) : exec (.pcoef pd) s = .next (complete s) := by
  rw [exec_pcoef_of_poly hp (coefTrap_none (.inl h)), forceCoef_of_isSome hp h]

theorem exec_ppoint_of_present (h : p.point.isSome = true) : exec (.ppoint pd) s = .next (complete s) := by
  rw [exec_ppoint_of_poly hp (pointTrap_none (.inl h)), forcePoint_of_isSome hp h]

/-! Forms computed from reduced elements -/

theorem exec_pext_of_reduced {target : Word} (hlt : p.degree < target.toNat) (htrap : pextTrap s p target.toNat = none)
    (hr : allReduced s.cfg p.coefOperands = true) : exec (.pext pd target) s = .next (complete { s with
      pd := s.pd.setIfInBounds pd.toNat (some ⟨target.toNat, some (p.padded s.cfg target.toNat), none⟩)
      rinit := s.rinit || p.coef.isNone }) := by
  have hmake : (extendPass s.cfg target.toNat).make p = ⟨target.toNat, some (p.padded s.cfg target.toNat), none⟩ := if_neg hlt.ne'
  have hdue : (extendPass s.cfg target.toNat).due p = p.coef.isNone := by simp [extendPass, hlt.ne']
  rw [exec_pext_of_poly hp htrap, hr, extend_true, PolyPass.run_of_poly _ hp, hmake, hdue]

theorem exec_pcoef_of_reduced (htrap : p.coefTrap s.cfg = none) (hr : allReduced s.cfg p.coefOperands = true) :
    exec (.pcoef pd) s = .next (complete { s with
      pd := s.pd.setIfInBounds pd.toNat (some { p with coef := some (p.coefVec s.cfg) })
      rinit := s.rinit || p.coef.isNone }) := by
  rw [exec_pcoef_of_poly hp htrap, hr, forceCoef_true, PolyPass.run_of_poly _ hp]
  rfl

theorem exec_ppoint_of_reduced (htrap : p.pointTrap s.cfg = none) (hr : allReduced s.cfg p.pointOperands = true) :
    exec (.ppoint pd) s = .next (complete { s with
      pd := s.pd.setIfInBounds pd.toNat (some { p with point := some (p.pointVec s.cfg) })
      rinit := s.rinit || p.point.isNone }) := by
  rw [exec_ppoint_of_poly hp htrap, hr, forcePoint_true, PolyPass.run_of_poly _ hp]
  rfl

/-! The missing form, between the two transforms -/

section
variable {m : Nat} (hdeg : p.degree = 2 ^ m) (hc : s.cfg.WellFormed) (hm : m ≤ s.cfg.maxLog) {v : List U256}
  (hr : allReduced s.cfg v = true)
include hdeg hm hr

theorem exec_pcoef_of_points (hcoef : p.coef = none) (hpoint : p.point = some v) : exec (.pcoef pd) s = .next { s with
    pd := s.pd.setIfInBounds pd.toNat (some { p with coef := some (invFft s.cfg m v) })
    rinit := true
    cseq := s.cseq + 1
    busy := false } := by
  have hlog : p.degree.log2 = m := by rw [hdeg, Nat.log2_two_pow]
  have hops : p.coefOperands = v := by simp [Poly.coefOperands, hcoef, hpoint]
  have hvec : p.coefVec s.cfg = invFft s.cfg m v := by simp [Poly.coefVec, hcoef, hpoint, hlog]
  rw [exec_pcoef_of_reduced hp (coefTrap_none (.inr (hlog ▸ hm))) (hops ▸ hr), hvec, hcoef, Option.isNone_none, Bool.or_true]
  rfl

include hc

theorem exec_ppoint_of_coefs (hv : v.length = 2 ^ m) (hpoint : p.point = none) (hcoef : p.coef = some v) :
    exec (.ppoint pd) s = .next { s with
      pd := s.pd.setIfInBounds pd.toNat (some { p with point := some (dft s.cfg m v) })
      rinit := true
      cseq := s.cseq + 1
      busy := false } := by
  have hlog : p.degree.log2 = m := by rw [hdeg, Nat.log2_two_pow]
  have hops : p.pointOperands = v := by simp [Poly.pointOperands, hcoef, hpoint]
  have hvec : p.pointVec s.cfg = dft s.cfg m v := by
    simp [Poly.pointVec, hcoef, hpoint, hlog, recFft_eq_dft hc hr hm hv]
  rw [exec_ppoint_of_reduced hp (pointTrap_none (.inr (hlog ▸ hm))) (hops ▸ hr), hvec, hpoint, Option.isNone_none, Bool.or_true]
  rfl

end

end

/-- `PEXT` of a descriptor of degree `2^m` to degree `2^k`, `m ≤ k`. -/
theorem exec_pext_spec {s : State} {pd : PolyIdx} {p : Poly} (hp : s.getPoly pd = some p) {m k : Nat} (hdeg : p.degree = 2 ^ m)
    {target : Word} (htarget : target.toNat = 2 ^ k) (hle : m ≤ k) :
    (s.cfg.pMaxDeg < 2 ^ k → exec (.pext pd target) s = .next (raise (trap .capacity (2 ^ k) s.cfg.pMaxDeg 2) s)) ∧
    (2 ^ k ≤ s.cfg.pMaxDeg → k = m → exec (.pext pd target) s = .next (complete s)) ∧
    (2 ^ k ≤ s.cfg.pMaxDeg → m < k → p.coef = none → s.cfg.maxLog < m →
      exec (.pext pd target) s = .next (raise (trap .rootOrder p.degree 0 0) s)) ∧
    (2 ^ k ≤ s.cfg.pMaxDeg → m < k → p.coef.isSome = true ∨ m ≤ s.cfg.maxLog → allReduced s.cfg p.coefOperands = true →
      exec (.pext pd target) s = .next (complete { s with
        pd := s.pd.setIfInBounds pd.toNat (some ⟨2 ^ k, some (p.coefVec s.cfg ++ List.replicate (2 ^ k - 2 ^ m) 0), none⟩)
        rinit := s.rinit || p.coef.isNone })) := by
  have hlog : p.degree.log2 = m := by rw [hdeg, Nat.log2_two_pow]
  have larger : 2 ^ k ≤ s.cfg.pMaxDeg → m < k → p.degree < target.toNat ∧ pextTrap s p target.toNat = p.coefTrap s.cfg := by
    intro hfit hlt
    have hgrow : p.degree < 2 ^ k := hdeg ▸ Nat.pow_lt_pow_right one_lt_two hlt
    rw [htarget, pextTrap_of_fits hdeg hle hfit, if_neg hgrow.ne']
    exact ⟨hgrow, rfl⟩
  refine ⟨fun hcap => ?_, fun hfit hkm => ?_, fun hfit hlt hcoef hroot => ?_, fun hfit hlt hroot hr => ?_⟩
  · exact settle_onPoly_of_trap hp (htarget ▸ pextTrap_of_capacity hdeg hle hcap)
  · have hsame : target.toNat = p.degree := by rw [htarget, hdeg, hkm]
    have htrap : pextTrap s p target.toNat = none := by
      rw [htarget, pextTrap_of_fits hdeg hle hfit, if_pos (htarget.symm.trans hsame)]
    rw [exec_pext_of_poly hp htrap, hsame, extend_to_degree hp]
  · exact settle_onPoly_of_trap hp ((larger hfit hlt).2.trans (coefTrap_of_missing hcoef (hlog ▸ hroot)))
  · obtain ⟨hgrow, htrap⟩ := larger hfit hlt
    rw [exec_pext_of_reduced hp hgrow (htrap.trans (coefTrap_none (hlog ▸ hroot))) hr, Poly.padded, htarget, hdeg]

/-- Settles O55: forcing is one of the two transforms, which undo each other. -/
theorem polynomialFormsAreForced : Obligations.PolynomialFormsAreForced := by
  intro s pd target _
  refine ⟨fun hnone => ⟨settle_onPoly_of_none hnone _, settle_onPoly_of_none hnone _, settle_onPoly_of_none hnone _⟩,
    fun p m hp hdeg => ?_⟩
  have hlog : p.degree.log2 = m := by rw [hdeg, Nat.log2_two_pow]
  refine ⟨fun hbad => settle_onPoly_of_trap hp (pextTrap_of_degree hdeg hbad), fun k htarget hle => exec_pext_spec hp hdeg htarget hle,
    exec_pcoef_of_present hp, exec_ppoint_of_present hp, fun hcoef hroot => ?_, fun hpoint hroot => ?_, fun v hc hm hv hr => ⟨?_, ?_⟩⟩
  · exact settle_onPoly_of_trap hp (coefTrap_of_missing hcoef (hlog ▸ hroot))
  · exact settle_onPoly_of_trap hp (pointTrap_of_missing hpoint (hlog ▸ hroot))
  · exact fun hcoef hpoint => ⟨invFft s.cfg m v, dft_invFft hc hm hv hr, invFft_length _ _ _, invFft_allReduced hc m v,
      exec_pcoef_of_points hp hdeg hm hr hcoef hpoint⟩
  · exact exec_ppoint_of_coefs hp hdeg hc hm hr hv

end Sys2Proof.Proofs
end

section
/-! `PEVAL`, `PSTC`, `PSTP` (45_polynomial.md R260, R271, R275, R276): Horner's loop evaluates, and each command on reduced elements
forces the form it reads. -/

namespace Sys2Proof.Proofs

open Sys2Proof.Machine Sys2Proof.Laws

/-- Horner's loop stays reduced and evaluates the polynomial (R271). -/
theorem horner_spec {c : Cfg} (hc : c.WellFormed) (x : U256) : ∀ v : List U256, allReduced c v = true →
    (horner c x v).toNat < c.n.toNat ∧ c.denote (horner c x v) = evalAt c (c.denote x) v
  | [], _ => ⟨zero_lt_modulus hc, denote_zero c⟩
  | a :: v, h => by
    obtain ⟨ha, hv⟩ := List.forall_mem_cons.1 ((allReduced_iff c _).1 h)
    obtain ⟨hlt, heval⟩ := horner_spec hc x v ((allReduced_iff c v).2 hv)
    have hprod := monPro_lt hc hlt x
    refine ⟨monAdd_lt hc hprod ha, ?_⟩
    calc c.denote (monAdd c (monPro c (horner c x v) x) a)
        = c.denote (horner c x v) * c.denote x + c.denote a := by rw [denote_monAdd hc hprod ha, denote_monPro hc hlt]
      _ = c.denote a + c.denote x * evalAt c (c.denote x) v := by rw [heval]; ring

section
variable {s : State} {pa : PolyIdx} {p : Poly} (hp : s.getPoly pa = some p)
include hp

/-! The range -/

theorem exec_pstc_of_outside {dst : Word} (htrap : p.coefTrap s.cfg = none) (hout : s.cfg.vmSize < dst.toNat + p.degree) :
    exec (.pstc pa dst) s = .next (raise (trap .vmBounds dst.toNat p.degree 0) s) :=
  settle_onPoly_of_trap hp (by rw [htrap, Option.none_or, boundsTrap_of_not_fits hout])

theorem exec_pstp_of_outside {dst : Word} (htrap : p.pointTrap s.cfg = none) (hout : s.cfg.vmSize < dst.toNat + p.degree) :
    exec (.pstp pa dst) s = .next (raise (trap .vmBounds dst.toNat p.degree 0) s) :=
  settle_onPoly_of_trap hp (by rw [htrap, Option.none_or, boundsTrap_of_not_fits hout])

/-! Reduced elements -/

section
variable (htrap : p.coefTrap s.cfg = none) (hr : allReduced s.cfg p.coefOperands = true)
include htrap hr

theorem exec_peval_of_reduced {fd fx : RegIdx} (hx : isReduced s.cfg (s.getF fx) = true) :
    exec (.peval fd pa fx) s =
      .next (complete (((coefPass s.cfg).run pa s).setF fd (horner s.cfg (s.getF fx) (p.coefVec s.cfg)))) := by
  simp only [exec, execPeval, onPoly_of_poly hp, htrap, hr, hx, Bool.and_self, guarded_none, settle_ok, coefOf_coefPass hp,
    putElem_true, forceCoef_true]

theorem exec_pstc_of_reduced {dst : Word} (hin : dst.toNat + p.degree ≤ s.cfg.vmSize) :
    exec (.pstc pa dst) s = .next (complete (((coefPass s.cfg).run pa s).memWrite dst.toNat (p.coefVec s.cfg))) := by
  simp only [exec, execPstc, onPoly_of_poly hp, htrap, hr, boundsTrap_of_fits hin, Option.or_none, guarded_none, settle_ok,
    coefOf_coefPass hp, putVec_true, forceCoef_true]

end

theorem exec_pstp_of_reduced (htrap : p.pointTrap s.cfg = none) (hr : allReduced s.cfg p.pointOperands = true) {dst : Word}
    (hin : dst.toNat + p.degree ≤ s.cfg.vmSize) :
    exec (.pstp pa dst) s = .next (complete (((pointPass s.cfg).run pa s).memWrite dst.toNat (p.pointVec s.cfg))) := by
  simp only [exec, execPstp, onPoly_of_poly hp, htrap, hr, boundsTrap_of_fits hin, Option.or_none, guarded_none, settle_ok,
    pointOf_pointPass hp, putVec_true, forcePoint_true]

end

/-- A form is there or can be transformed, where the root check passes. -/
theorem present_or_le_of_not {o : Option (List U256)} {a b : Nat} (h : ¬(o = none ∧ a < b)) : o.isSome = true ∨ b ≤ a :=
  (not_and_or.1 h).imp Option.isSome_iff_ne_none.2 Nat.le_of_not_lt

/-- Settles O58: the form read is the one forced, and Horner's loop gives the sum. -/
theorem polynomialsAreEvaluatedAndReadOut : Obligations.PolynomialsAreEvaluatedAndReadOut := by
  intro s fd fx pa dst _ _ _
  refine ⟨fun hnone => ⟨settle_onPoly_of_none hnone _, settle_onPoly_of_none hnone _, settle_onPoly_of_none hnone _⟩,
    fun p hp hok => ?_⟩
  intro needCoef needPoint forced
  have coefReady : ¬ needCoef → p.coefTrap s.cfg = none := fun h => coefTrap_none (present_or_le_of_not h)
  have pointReady : ¬ needPoint → p.pointTrap s.cfg = none := fun h => pointTrap_none (present_or_le_of_not h)
  refine ⟨fun ⟨hcoef, hroot⟩ => ?_, fun ⟨hpoint, hroot⟩ => ?_, fun hout => ?_, fun hc hneed hr hx => ?peval,
    fun hneed hr hin => ?pstc, fun hneed hr hin => ?pstp⟩
  · have htrap := coefTrap_of_missing hcoef hroot
    exact ⟨settle_onPoly_of_trap hp htrap, settle_onPoly_of_trap hp (by rw [htrap, Option.some_or])⟩
  · exact settle_onPoly_of_trap hp (by rw [pointTrap_of_missing hpoint hroot, Option.some_or])
  · exact ⟨fun h => exec_pstc_of_outside hp (coefReady h) hout, fun h => exec_pstp_of_outside hp (pointReady h) hout⟩
  case peval =>
    obtain ⟨hlt, heval⟩ := horner_spec hc (s.getF fx) _ (coefVec_allReduced_of_operands hc hr)
    refine ⟨_, hlt, ?_, ?_⟩
    · rw [heval, evalAt_eq_sum, coefVec_length hok]
    · rw [exec_peval_of_reduced hp (coefReady hneed) hr ((isReduced_iff _ _).2 hx), PolyPass.run_of_poly _ hp]
      rfl
  case pstc =>
    rw [exec_pstc_of_reduced hp (coefReady hneed) hr hin, PolyPass.run_of_poly _ hp]
    rfl
  case pstp =>
    rw [exec_pstp_of_reduced hp (pointReady hneed) hr hin, PolyPass.run_of_poly _ hp]
    rfl

end Sys2Proof.Proofs
end

section
/-! `PADD` and `PMUL` on reduced elements (45_polynomial.md R260, R267 to R270): both sources after two passes over each, whichever
descriptors coincide, the elementwise sum and the pointwise product. -/

namespace Sys2Proof.Proofs

open Sys2Proof.Machine Sys2Proof.Laws

/-! Two descriptors, which may be one -/

/-- A state with the descriptors `i` and `j`, in this order, and `RINIT` written. -/
def writePolys (s : State) (i j : PolyIdx) (x y : Poly) (b : Bool) : State :=
  { s with pd := (s.pd.setIfInBounds i.toNat (some x)).setIfInBounds j.toNat (some y), rinit := b }

/-- The second write of the pair wins. -/
theorem writePolys_writePolys (s : State) (i j : PolyIdx) (x y x' y' : Poly) (b b' : Bool) :
    writePolys (writePolys s i j x y b) i j x' y' b' = writePolys s i j x' y' b' := by
  have hpd : ((((s.pd.setIfInBounds i.toNat (some x)).setIfInBounds j.toNat (some y)).setIfInBounds i.toNat (some x')).setIfInBounds
      j.toNat (some y')) = (s.pd.setIfInBounds i.toNat (some x')).setIfInBounds j.toNat (some y') := by
    refine Vector.ext fun n hn => ?_
    simp only [Vector.getElem_setIfInBounds hn]
    split_ifs <;> rfl
  simp only [writePolys, hpd]

section
variable {s : State} {i j : PolyIdx} {p q : Poly} (hp : s.getPoly i = some p) (hq : s.getPoly j = some q)
include hp hq

/-- Where the two descriptors are one, the same polynomial is written twice. -/
theorem getPoly_writePolys (f : Poly → Poly) (b : Bool) : (writePolys s i j (f p) (f q) b).getPoly i = some (f p) ∧
    (writePolys s i j (f p) (f q) b).getPoly j = some (f q) := by
  have hj : (writePolys s i j (f p) (f q) b).getPoly j = some (f q) :=
    getPoly_setPoly_same (s.setPoly i (some (f p))) j _ (getPoly_isPoly hq)
  refine ⟨?_, hj⟩
  by_cases hij : i = j
  · subst hij
    cases Option.some.inj (hp.symm.trans hq)
    exact hj
  · exact (getPoly_setPoly_ne (s.setPoly i (some (f p))) j i _ hij).trans
      (getPoly_setPoly_same s i _ (getPoly_isPoly hp))

/-- A pass over each of two descriptors; over one descriptor the second changes nothing. -/
theorem PolyPass.run_pair (P : PolyPass) :
    P.run j (P.run i s) = writePolys s i j (P.make p) (P.make q) (s.rinit || P.due p || P.due q) := by
  have hget := P.getPoly_run hp j
  split_ifs at hget with hij
  · subst hij
    cases Option.some.inj (hp.symm.trans hq)
    rw [P.run_of_poly hget, P.run_of_poly hp, P.make_make, P.due_make, writePolys, Bool.or_false, Bool.or_assoc, Bool.or_self]
  · rw [P.run_of_poly (hget.trans hq), P.run_of_poly hp]
    rfl

/-- Two passes over each, one pass after the other. -/
theorem PolyPass.run_pairs (P Q : PolyPass) : Q.run j (Q.run i (P.run j (P.run i s))) =
    writePolys s i j (Q.make (P.make p)) (Q.make (P.make q))
      (s.rinit || P.due p || P.due q || Q.due (P.make p) || Q.due (P.make q)) := by
  obtain ⟨hp', hq'⟩ := getPoly_writePolys hp hq P.make (s.rinit || P.due p || P.due q)
  rw [P.run_pair hp hq, Q.run_pair hp' hq', writePolys_writePolys]
  rfl

end

/-! What the passes make of a source -/

section
variable {c : Cfg} {p : Poly} {d : Nat}

/-- Extended and then forced, a source is stretched (R265, R268). -/
theorem stretch_eq : (coefPass c).make ((extendPass c d).make p) = p.stretch c d := by
  by_cases hd : p.degree = d
  · simp only [coefPass, extendPass, extended, Poly.stretch, if_pos hd, if_pos hd.symm]
  · simp only [coefPass, extendPass, extended, Poly.stretch, if_neg hd, if_neg (Ne.symm hd)]
    rfl

/-- Its coefficients are transformed once, by either pass. -/
theorem stretch_due : ((extendPass c d).due p || (coefPass c).due ((extendPass c d).make p)) = p.coef.isNone := by
  by_cases hd : d = p.degree
  · simp [coefPass, extendPass, extended, hd]
  · simp [coefPass, extendPass, extended, hd]

theorem stretch_coef : (p.stretch c d).coef = some (p.padded c d) := by
  unfold Poly.stretch
  split
  · next hd => simp [Poly.padded, hd]
  · rfl

/-- Extended to a larger degree a source has no points, and their transform is added (R269). -/
theorem pointPass_extendPass (hlt : p.degree < d) : (pointPass c).make ((extendPass c d).make p) =
    ⟨d, some (p.padded c d), some (recFft c d.log2 (p.padded c d))⟩ := by
  simp only [pointPass, extendPass, extended, if_neg hlt.ne']
  rfl

theorem pointPass_due_extendPass (hlt : p.degree < d) : (pointPass c).due ((extendPass c d).make p) = true := by
  simp only [pointPass, extendPass, extended, if_neg hlt.ne']
  rfl

theorem padded_allReduced (hc : c.WellFormed) (hr : allReduced c p.coefOperands = true) : allReduced c (p.padded c d) = true :=
  allReduced_append.2 ⟨coefVec_allReduced_of_operands hc hr, allReduced_zeros hc _⟩

end

/-! The checks -/

section
variable {s : State} {pd pa pb : PolyIdx}

theorem destTrap_of_valid (ha : pd ≠ pa) (hb : pd ≠ pb) (h : (s.getPoly pd).isSome = true) :
    destTrap s pd pa pb = some (trap .polyState pd.toNat 1 0) := if_pos ⟨ha, hb, h⟩

theorem pmulTrap_of_capacity {c : Cfg} {d : Nat} (h : c.pMaxDeg < d) :
    pmulTrap c d = some (trap .capacity d c.pMaxDeg 2) := if_pos h

theorem pmulTrap_of_root {c : Cfg} {k : Nat} (hfit : 2 ^ k ≤ c.pMaxDeg) (h : c.maxLog < k) :
    pmulTrap c (2 ^ k) = some (trap .rootOrder (2 ^ k) 0 0) := by
  simp [pmulTrap, rootTrap, Nat.not_lt.2 hfit, Nat.log2_two_pow, h]

theorem pmulTrap_of_fits {c : Cfg} {k : Nat} (hfit : 2 ^ k ≤ c.pMaxDeg) (h : k ≤ c.maxLog) : pmulTrap c (2 ^ k) = none := by
  simp [pmulTrap, rootTrap, Nat.not_lt.2 hfit, Nat.log2_two_pow, Nat.not_lt.2 h]

theorem settle_onPolys_of_trap {p q : Poly} (hp : s.getPoly pa = some p) (hq : s.getPoly pb = some q)
    {check : Poly → Poly → Option Trap} {effect : Poly → Poly → State} {t : Trap} (ht : check p q = some t) :
    settle s (onPoly s pa fun x => onPoly s pb fun y => guarded (check x y) (effect x y)) = .next (raise t s) := by
  rw [onPoly_of_poly hp]
  exact settle_onPoly_of_trap hq ht

/-- The second source is looked at when the first is valid. -/
theorem settle_onPolys_of_none {p : Poly} (hp : s.getPoly pa = some p) (hq : s.getPoly pb = none)
    (body : Poly → Poly → Except Trap State) :
    settle s (onPoly s pa fun x => onPoly s pb (body x)) = .next (raise (trap .polyState pb.toNat 2 0) s) := by
  rw [onPoly_of_poly hp, settle_onPoly_of_none hq]

end

/-! The commands on reduced elements -/

section
variable {s : State} {pa pb : PolyIdx} {p q : Poly} (hp : s.getPoly pa = some p) (hq : s.getPoly pb = some q)
  (hrp : allReduced s.cfg p.coefOperands = true) (hrq : allReduced s.cfg q.coefOperands = true)
include hp hq hrp hrq

/-- `PADD`'s effect (R268). -/
theorem paddEffect_of_reduced (pd : PolyIdx) {d : Nat} (hd : max p.degree q.degree = d) : paddEffect s pd pa pb p q =
    (writePolys s pa pb (p.stretch s.cfg d) (q.stretch s.cfg d) (s.rinit || p.coef.isNone || q.coef.isNone)).setPoly pd
      (some ⟨d, some (List.zipWith (monAdd s.cfg) (p.padded s.cfg d) (q.padded s.cfg d)), none⟩) := by
  have hrinit : (s.rinit || (extendPass s.cfg d).due p || (extendPass s.cfg d).due q ||
      (coefPass s.cfg).due ((extendPass s.cfg d).make p) || (coefPass s.cfg).due ((extendPass s.cfg d).make q)) =
      (s.rinit || p.coef.isNone || q.coef.isNone) := by
    rw [← stretch_due (c := s.cfg) (d := d) (p := p), ← stretch_due (c := s.cfg) (d := d) (p := q)]
    ac_rfl
  have hboth := PolyPass.run_pairs hp hq (extendPass s.cfg d) (coefPass s.cfg)
  rw [stretch_eq, stretch_eq, hrinit] at hboth
  obtain ⟨hgetp, hgetq⟩ := getPoly_writePolys hp hq (Poly.stretch s.cfg d) (s.rinit || p.coef.isNone || q.coef.isNone)
  simp only [paddEffect, hd, hrp, hrq, Bool.and_self, extend_true, forceCoef_true, PolyPass.run_cfg, hboth, State.coefOf, hgetp, hgetq,
    Option.bind_some, stretch_coef, Option.getD_some, State.newCoef, openVec_true]
  rfl

/-- `PMUL`'s effect (R269). -/
theorem pmulEffect_of_reduced (pd : PolyIdx) {d : Nat} (hd : 2 * max p.degree q.degree = d) (hltp : p.degree < d)
    (hltq : q.degree < d) : pmulEffect s pd pa pb p q =
    (writePolys s pa pb ⟨d, some (p.padded s.cfg d), some (recFft s.cfg d.log2 (p.padded s.cfg d))⟩
      ⟨d, some (q.padded s.cfg d), some (recFft s.cfg d.log2 (q.padded s.cfg d))⟩ true).setPoly pd
      (some ⟨d, none, some (List.zipWith (monPro s.cfg) (recFft s.cfg d.log2 (p.padded s.cfg d))
        (recFft s.cfg d.log2 (q.padded s.cfg d)))⟩) := by
  have hboth := PolyPass.run_pairs hp hq (extendPass s.cfg d) (pointPass s.cfg)
  rw [pointPass_due_extendPass hltp, Bool.or_true, Bool.true_or] at hboth
  obtain ⟨hgetp, hgetq⟩ := getPoly_writePolys hp hq (fun x => (pointPass s.cfg).make ((extendPass s.cfg d).make x)) true
  rw [pointPass_extendPass hltp, pointPass_extendPass hltq] at hboth hgetp hgetq
  simp only [pmulEffect, hd, hrp, hrq, Bool.and_self, extend_true, forcePoint_true, PolyPass.run_cfg, hboth, State.pointOf, hgetp,
    hgetq, Option.bind_some, Option.getD_some, State.newPoint, openVec_true]
  rfl

end

/-- Settles O56: each source is stretched on its own, also where the two are one. -/
theorem paddAddsInPlace : Obligations.PaddAddsInPlace := by
  intro s pd pa pb _ _ _
  refine ⟨fun hnone => settle_onPoly_of_none hnone _, fun p hp => ⟨fun hnone => settle_onPolys_of_none hp hnone _, fun q hq =>
    ⟨fun ha hb hd => ?_, fun hdest => ⟨fun hcoef hroot => ?_, fun hrootp => ⟨fun hcoef hroot => ?_, fun hrootq _ _ hrp hrq => ?_⟩⟩⟩⟩⟩
  · exact settle_onPolys_of_trap hp hq (by rw [destTrap_of_valid ha hb hd, Option.some_or])
  · exact settle_onPolys_of_trap hp hq (by
      rw [destTrap_none hdest, coefTrap_of_missing hcoef hroot, Option.none_or, Option.some_or])
  · exact settle_onPolys_of_trap hp hq (by
      rw [destTrap_none hdest, coefTrap_none hrootp, coefTrap_of_missing hcoef hroot, Option.none_or, Option.none_or])
  · simp only [exec, execPadd, onPoly_of_poly hp, onPoly_of_poly hq, destTrap_none hdest, coefTrap_none hrootp, coefTrap_none hrootq,
      Option.or_none, guarded_none, settle_ok, paddEffect_of_reduced hp hq hrp hrq pd rfl]
    rfl

/-- Settles O57: each source is doubled on its own, also where the two are one, and the product of the transforms is the transform
of the convolution. -/
theorem pmulMultipliesPolynomials : Obligations.PmulMultipliesPolynomials := by
  intro s pd pa pb _ _ _
  refine ⟨fun hnone => settle_onPoly_of_none hnone _, fun p hp => ⟨fun hnone => settle_onPolys_of_none hp hnone _, fun q hq =>
    ⟨fun ha hb hd => ?_, fun k hdest hdeg => ⟨fun hcap => ?_, fun hfit hroot => ?_, fun hc hfit hk hpok hqok hrp hrq => ?_⟩⟩⟩⟩
  · exact settle_onPolys_of_trap hp hq (by rw [destTrap_of_valid ha hb hd, Option.some_or])
  · exact settle_onPolys_of_trap hp hq (by rw [destTrap_none hdest, hdeg, pmulTrap_of_capacity hcap, Option.none_or])
  · exact settle_onPolys_of_trap hp hq (by rw [destTrap_none hdest, hdeg, pmulTrap_of_root hfit hroot, Option.none_or])
  · intro u v r
    have hltp : p.degree < 2 ^ k := hdeg ▸ degree_lt_double hpok (le_max_left _ _)
    have hltq : q.degree < 2 ^ k := hdeg ▸ degree_lt_double hqok (le_max_right _ _)
    have hu : recFft s.cfg (2 ^ k).log2 u = dft s.cfg k u := by
      rw [Nat.log2_two_pow, recFft_eq_dft hc (padded_allReduced hc hrp) hk (padded_length hpok hltp.le)]
    have hv : recFft s.cfg (2 ^ k).log2 v = dft s.cfg k v := by
      rw [Nat.log2_two_pow, recFft_eq_dft hc (padded_allReduced hc hrq) hk (padded_length hqok hltq.le)]
    refine ⟨?_, ?_⟩
    · have heffect := pmulEffect_of_reduced hp hq hrp hrq pd hdeg hltp hltq
      rw [hu, hv] at heffect
      simp only [exec, execPmul, onPoly_of_poly hp, onPoly_of_poly hq, destTrap_none hdest, hdeg, pmulTrap_of_fits hfit hk,
        Option.or_none, guarded_none, settle_ok, heffect]
      rfl
    · refine invFft_pointwise_eq_convolve hc (coefVec_allReduced_of_operands hc hrp) (coefVec_allReduced_of_operands hc hrq) hk ?_ _ _
      rw [coefVec_length hpok, coefVec_length hqok, ← hdeg, two_mul]
      exact Nat.add_le_add (le_max_left _ _) (le_max_right _ _)

end Sys2Proof.Proofs
end

section
/-! Where the commands store (46_data_movement_system.md R291, R292, R295; 20_memory.md R71, R72; 60_exceptions.md R306). -/

namespace Sys2Proof.Proofs

open Sys2Proof.Machine Sys2Proof.Laws

/-! Bytes left as they were -/

/-- `epoch`, because a byte not written since the reset reads as a free value of the reset's number (log entry 5). -/
theorem vmByte_of_same {s u : State} (hvm : u.vm = s.vm) (hepoch : u.epoch = s.epoch) (a : Nat) : u.vmByte a = s.vmByte a := by
  simp only [State.vmByte, State.vmByteIn, hvm, hepoch]

/-- Every byte outside `count` slots from `slot` up reads in `u` as in `s`. -/
def SameOutside (slot count : Nat) (s u : State) : Prop :=
  ∀ a, a < 32 * slot ∨ 32 * (slot + count) ≤ a → u.vmByte a = s.vmByte a

/-- Between `s` and `u` only bytes of the slots `i` stores to have changed. -/
def StoresWithin (i : Instr) (s u : State) : Prop :=
  ∃ slot count, storeRange i s = some (slot, count) ∧ SameOutside slot count s u

namespace SameOutside

/-- A vector stored after work that left the memory alone. -/
theorem putVec {s t : State} (hsame : ∀ a, t.vmByte a = s.vmByte a) (addr : Nat) (reduced : Bool) {v : List U256} {n : Nat}
    (hlen : v.length = n) : SameOutside addr n s (t.putVec addr reduced v) := fun a ha =>
  (memWrite_byte_outside t addr (openVec reduced v t.draws).1 a (by rwa [openVec_length, hlen])).trans (hsame a)

theorem transformEffect {s : State} {src dst len : Word} {fn : List U256 → List U256}
    (hlen : (fn (s.memRead src.toNat len.toNat)).length = len.toNat) (extra : Bool) :
    SameOutside dst.toNat len.toNat s (transformEffect s src dst len extra fn) := putVec (fun _ => rfl) _ _ hlen

end SameOutside

theorem Confined.vmByte {i : Instr} {s u : State} (h : Confined i s u) (hi : touchesVm i = false) (a : Nat) :
    u.vmByte a = s.vmByte a := vmByte_of_same (h.vm hi) (congrArg Control.epoch h.control) a

/-! The forms a storing polynomial command reads (45_polynomial.md R275, R276) -/

section
variable {s : State} (h : s.Inv) {pa : PolyIdx} {p : Poly} (hp : s.getPoly pa = some p)
include h hp

theorem coefOf_forceCoef_length (htp : p.coefTrap s.cfg = none) (reduced : Bool) :
    ((s.forceCoef pa reduced).coefOf pa).length = p.degree := by
  have hk : PolysKept s.cfg False s := ⟨rfl, fun j q hq => ⟨h.polys j q hq, nofun⟩⟩
  exact ((hk.forceCoef nofun nofun ⟨p, hp, htp⟩).coefOf (coefReady_forceCoef ⟨p, hp, rfl⟩ reduced)).1

theorem pointOf_forcePoint_length (reduced : Bool) : ((s.forcePoint pa reduced).pointOf pa).length = p.degree := by
  have hk : PolysKept s.cfg False s := ⟨rfl, fun j q hq => ⟨h.polys j q hq, nofun⟩⟩
  exact ((hk.forcePoint nofun nofun pa).pointOf (pointReady_forcePoint ⟨p, hp, rfl⟩ reduced)).1

end

/-! The frame of the memory -/

/-- The bodies of the storing commands store within the slots the command names. -/
theorem bodyEnsures_storesWithin {i : Instr} {s : State} (h : s.Inv) (hi : touchesVm i = true) :
    BodyEnsures i s (StoresWithin i s) := by
  cases i with
  | ste fa addr => exact ⟨_, rfl, ensures_guarded fun _ => ⟨_, _, rfl, memWrite_byte_outside s addr.toNat [s.getF fa]⟩⟩
  | fftrec src dst len =>
    refine ⟨_, rfl, ensures_guarded fun ht => ⟨_, _, rfl, .transformEffect ?_ _⟩⟩
    exact recFft_memRead_length s src.toNat (transformTrap_none ht).1
  | fftr2 fw src dst len =>
    refine ⟨_, rfl, ensures_guarded fun ht => ⟨_, _, rfl, .transformEffect ?_ _⟩⟩
    rw [radix2Fft_length, ← eq_two_pow_log2 (transformTrap_none ht).1]
  | fft4 logRows logCols src dst len =>
    refine ⟨_, rfl, ensures_guarded fun ht => ⟨_, _, rfl, .transformEffect ?_ _⟩⟩
    obtain ⟨-, hshape, -⟩ := transformTrap_none ht
    rw [fourStep_length, pow_add, shapeTrap_none hshape]
  | ifft src dst len =>
    refine ⟨_, rfl, ensures_guarded fun ht => ⟨_, _, rfl, .transformEffect ?_ _⟩⟩
    rw [invFft_length, ← eq_two_pow_log2 (transformTrap_none ht).1]
  | jst js dst =>
    cases he : s.getJob js with
    | none => exact ⟨_, exec_jst_of_empty he, ensures_error _⟩
    | some e =>
      refine ⟨_, exec_jst_of_entry he, ensures_guarded fun _ => ⟨dst.toNat, e.data.length, ?_, .putVec (fun _ => rfl) _ _ rfl⟩⟩
      rw [storeRange, he, Option.map_some]
  | pstc pa dst =>
    refine ⟨_, rfl, ensures_onPoly fun p hp => ensures_guarded fun ht => ⟨dst.toNat, p.degree, ?_, ?_⟩⟩
    · rw [storeRange, hp, Option.map_some]
    · have hf : Confined (.pcoef pa) s (s.forceCoef pa (allReduced s.cfg p.coefOperands)) := .forceCoef rfl _ _ _
      exact .putVec (hf.vmByte rfl) _ _ (coefOf_forceCoef_length h hp (Option.or_eq_none_iff.1 ht).1 _)
  | pstp pa dst =>
    refine ⟨_, rfl, ensures_onPoly fun p hp => ensures_guarded fun _ => ⟨dst.toNat, p.degree, ?_, ?_⟩⟩
    · rw [storeRange, hp, Option.map_some]
    · have hf : Confined (.ppoint pa) s (s.forcePoint pa (allReduced s.cfg p.pointOperands)) := .forcePoint rfl _ _ _
      exact .putVec (hf.vmByte rfl) _ _ (pointOf_forcePoint_length h hp _)
  | _ => cases hi

/-- What a command leaves of the memory: all of it, or all but the slots it stores to. -/
theorem exec_memory_cases {i : Instr} {s t : State} (h : s.Inv) (hs : exec i s = .next t) :
    (∀ a, t.vmByte a = s.vmByte a) ∨ StoresWithin i s t := by
  cases hi : touchesVm i with
  | false =>
    rcases exec_cases hs with ⟨u, hu, rfl⟩ | ⟨tr, rfl⟩
    · exact .inl (hu.vmByte hi)
    · exact .inl fun _ => rfl
  | true =>
    rcases (bodyEnsures_storesWithin h hi).next_cases hs with ⟨u, hu, rfl⟩ | ⟨tr, rfl⟩
    · exact .inr hu
    · exact .inl fun _ => rfl

/-- A command that sets `FAULT` has only entered the fault state (60_exceptions.md R306). -/
theorem exec_eq_raise_of_fault {i : Instr} {s t : State} (hs : exec i s = .next t) (h0 : s.fault = false) (h1 : t.fault = true) :
    ∃ tr, t = raise tr s := by
  rcases exec_cases hs with ⟨u, hu, rfl⟩ | htr
  · have hfault : u.fault = s.fault := congrArg Control.fault hu.control
    rw [complete_fault, hfault, h0] at h1
    cases h1
  · exact htr

/-- Settles O21: a body stores nothing or stores within its range, and entering the fault state stores nothing. -/
theorem memoryFrame : Obligations.MemoryFrame := by
  intro i s t h hs
  have hcases := exec_memory_cases h hs
  refine ⟨fun hnone => ?_, fun slot count hrange a ha => ?_, fun h0 h1 a => ?_⟩
  · rcases hcases with hall | ⟨slot, count, hrange, -⟩
    · exact hall
    · rw [hnone] at hrange
      cases hrange
  · rcases hcases with hall | ⟨slot', count', hrange', hsame⟩
    · exact hall a
    · cases hrange.symm.trans hrange'
      exact hsame a ha
  · obtain ⟨tr, rfl⟩ := exec_eq_raise_of_fault hs h0 h1
    rfl

/-! `LDE` and `STE` (R291, R292) -/

section
variable {s : State} {r : RegIdx} {addr : Word}

theorem exec_lde_of_fits (h : addr.toNat < s.cfg.vmSize) :
    exec (.lde r addr) s = .next (complete (s.setF r (s.vmSlot addr.toNat))) := by
  rw [exec, execLde, boundsTrap_of_fits h, guarded_none, settle_ok]

theorem exec_ste_of_fits (h : addr.toNat < s.cfg.vmSize) :
    exec (.ste r addr) s = .next (complete (s.memWrite addr.toNat [s.getF r])) := by
  rw [exec, execSte, boundsTrap_of_fits h, guarded_none, settle_ok]

theorem exec_lde_of_outside (h : s.cfg.vmSize ≤ addr.toNat) :
    exec (.lde r addr) s = .next (raise (trap .vmBounds addr.toNat 1 0) s) :=
  settle_guarded_of_trap (boundsTrap_of_not_fits (Nat.lt_succ_of_le h))

theorem exec_ste_of_outside (h : s.cfg.vmSize ≤ addr.toNat) :
    exec (.ste r addr) s = .next (raise (trap .vmBounds addr.toNat 1 0) s) :=
  settle_guarded_of_trap (boundsTrap_of_not_fits (Nat.lt_succ_of_le h))

end

/-- Settles O44: behind the check of the one slot, `LDE` is a register write and `STE` a memory write of one element. -/
theorem loadAndStore : Obligations.LoadAndStore := by
  intro s r addr _
  refine ⟨fun hin => ⟨exec_lde_of_fits hin, _, exec_ste_of_fits hin, rfl, ?_, ?_⟩,
    fun hout => ⟨exec_lde_of_outside hout, exec_ste_of_outside hout⟩⟩
  · exact memWrite_slot_inside s addr.toNat [s.getF r] 0 Nat.one_pos
  · exact memWrite_byte_outside s addr.toNat [s.getF r]

end Sys2Proof.Proofs
end

section
/-! A faulted CORE under the host's moves: everything but the memory and the host's side stays until a reset
(60_exceptions.md R307). -/

namespace Sys2Proof.Proofs

open Sys2Proof.Machine Sys2Proof.Laws

/-- The state without what the host may still write after a fault: the memory, the staged words, its moves and its reads. -/
def heldState (s : State) : State :=
  { s with vm := [], cmd0 := 0, cmd1 := 0, cmd2 := 0, host := [], rdata := 0, draws := 0 }

section
variable {s t : State}

/-- A faulted CORE takes staged words and drops commands (10_state.md R44). -/
theorem heldState_csrWrite (hf : s.fault = true) (n : Nat) (v : Word) : heldState (csrWrite s n v) = heldState s := by
  unfold csrWrite
  split_ifs
  · rfl
  · rfl
  · rfl
  · rw [issue_of_not_idle (.inr hf)]
  · rfl

theorem heldState_hostMemRead {slot i : Nat} (h : hostMemRead s slot i = .next t) : heldState t = heldState s := by
  unfold hostMemRead at h
  split_ifs at h
  cases h
  rfl

theorem heldState_hostMemWrite {slot i : Nat} {v : Word} (h : hostMemWrite s slot i v = .next t) :
    heldState t = heldState s := by
  unfold hostMemWrite at h
  split_ifs at h
  cases h
  rfl

/-- Every move of the host but a reset. -/
theorem heldState_hostMove {m : HostMove} (hf : s.fault = true) (hm : m ≠ .reset) (h : hostMove m s = .next t) :
    heldState t = heldState s := by
  cases m with
  | reset => exact absurd rfl hm
  | regRead n =>
    cases h
    rfl
  | regWrite n v =>
    cases h
    exact heldState_csrWrite hf n v
  | memRead slot i => exact heldState_hostMemRead h
  | memWrite slot i v => exact heldState_hostMemWrite h
  | busRead addr width =>
    simp only [hostMove] at h
    split_ifs at h
    split at h
    · cases h
      rfl
    · exact heldState_hostMemRead h
    · cases h
  | busWrite addr width v =>
    simp only [hostMove] at h
    split_ifs at h
    split at h
    · cases h
      exact heldState_csrWrite hf _ v
    · exact heldState_hostMemWrite h
    · cases h

/-- A step of a faulted CORE, which runs nothing: nothing, or the host's next move. -/
theorem heldState_step (hf : s.fault = true) (hb : s.busy = false) (hr : ∀ rest, s.host ≠ .reset :: rest)
    (h : step s = .next t) : heldState t = heldState s := by
  cases hh : s.host with
  | nil =>
    rw [hostAndCoreTakeTurns.2 s hb hh] at h
    cases h
    rfl
  | cons m rest =>
    rw [step_of_host hb hh] at h
    exact heldState_hostMove (s := { s with host := rest }) hf (fun hm => hr rest (hm ▸ hh)) h

end

/-- Settles O13: the fields named are part of the state a faulted CORE holds. -/
theorem faultStaysUntilReset : Obligations.FaultStaysUntilReset := by
  intro s t hf hb hr h
  obtain ⟨-, hregs, hw, hflagC, hflagS, hflagZ, hcseq, hbusy, hfault, hrinit, hrec, hres0, hres1, hres2, -, hjt, hpd, -, -, -,
    hcurrent, -⟩ := State.mk.inj (heldState_step hf hb hr h)
  exact ⟨hfault.trans hf, hbusy.trans hb, hrec, hcseq, hregs, hw, hflagC, hflagS, hflagZ, hrinit, hres0, hres1, hres2, hjt,
    hpd, hcurrent⟩

end Sys2Proof.Proofs
end

section
/-! The faults a command can take (60_exceptions.md R301, R303, R306): the causes of each check, and from them that every command
completes and counts, or takes a fault of its own row and changes nothing else. -/

namespace Sys2Proof.Proofs

open Sys2Proof.Machine Sys2Proof.Laws

/-! Causes of checks -/

/-- A check that fails does so with a cause of the list. -/
def TrapIn (cs : List Cause) (o : Option Trap) : Prop := ∀ t, o = some t → t.cause ∈ cs

section
variable {cs : List Cause}

theorem trapIn_none : TrapIn cs none := nofun

theorem trapIn_some {t : Trap} (h : cs.contains t.cause = true) : TrapIn cs (some t) := by
  rintro _ ⟨⟩
  exact List.contains_iff_mem.1 h

theorem trapIn_ite {p : Prop} [Decidable p] {o o' : Option Trap} (h : TrapIn cs o) (h' : TrapIn cs o') :
    TrapIn cs (if p then o else o') := by
  split
  · exact h
  · exact h'

theorem trapIn_or {o o' : Option Trap} (h : TrapIn cs o) (h' : TrapIn cs o') : TrapIn cs (o.or o') := by
  cases o with
  | none => exact h'
  | some t => exact h

theorem trapIn_boundsTrap (h : cs.contains .vmBounds = true) (s : State) (addr n : Nat) : TrapIn cs (boundsTrap s addr n) :=
  trapIn_ite trapIn_none (trapIn_some h)

theorem trapIn_rootTrap (h : cs.contains .rootOrder = true) (c : Cfg) (n : Nat) : TrapIn cs (rootTrap c n) :=
  trapIn_ite (trapIn_some h) trapIn_none

theorem trapIn_coefTrap (h : cs.contains .rootOrder = true) (c : Cfg) (p : Poly) : TrapIn cs (p.coefTrap c) :=
  trapIn_ite (trapIn_rootTrap h c _) trapIn_none

theorem trapIn_pointTrap (h : cs.contains .rootOrder = true) (c : Cfg) (p : Poly) : TrapIn cs (p.pointTrap c) :=
  trapIn_ite (trapIn_rootTrap h c _) trapIn_none

theorem trapIn_destTrap (h : cs.contains .polyState = true) (s : State) (pd pa pb : PolyIdx) :
    TrapIn cs (destTrap s pd pa pb) := trapIn_ite (trapIn_some h) trapIn_none

theorem trapIn_mergeTrap (hkey : cs.contains .pairKey = true) (hfit : cs.contains .capacity = true)
    (hroot : cs.contains .rootOrder = true) (c : Cfg) (js jo : Nat) (a b : JobEntry) : TrapIn cs (mergeTrap c js jo a b) :=
  trapIn_ite (trapIn_some hkey) (trapIn_ite (trapIn_some hfit) (trapIn_rootTrap hroot c _))

/-- The checks of 43_fft.md R202, of which `FFT4` alone makes the one on the shape. -/
theorem trapIn_transformTrap (hlen : cs.contains .nPow2 = true) (hroot : cs.contains .rootOrder = true)
    (hfit : cs.contains .vmBounds = true) (s : State) (op : Nat) (src dst : Word) {len : Word} {shape : Option (Nat × Nat)}
    (hshape : TrapIn cs (shapeTrap shape len.toNat)) : TrapIn cs (transformTrap s op src dst len shape) :=
  trapIn_ite (trapIn_some hlen) (trapIn_ite (trapIn_some hroot)
    (trapIn_or hshape (trapIn_or (trapIn_boundsTrap hfit s _ _) (trapIn_boundsTrap hfit s _ _))))

end

theorem trapIn_jnewTrap (s : State) (js : JobIdx) (src len id : Word) :
    TrapIn (causesOf (.jnew js src len id)) (jnewTrap s js src len) :=
  trapIn_ite (trapIn_some rfl) (trapIn_ite (trapIn_some rfl) (trapIn_ite (trapIn_some rfl) (trapIn_boundsTrap rfl s _ _)))

theorem trapIn_jforkTrap (s : State) (jd js : JobIdx) (e : JobEntry) (target : Word) :
    TrapIn (causesOf (.jfork jd js target)) (jforkTrap s jd e target.toNat) := by
  refine trapIn_ite (trapIn_some rfl) (trapIn_ite (trapIn_some rfl) (trapIn_ite (trapIn_some rfl) ?_))
  split
  · exact trapIn_some rfl
  · exact trapIn_none

theorem trapIn_pnewTrap (s : State) (pd : PolyIdx) (src count : Word) :
    TrapIn (causesOf (.pnew pd src count)) (pnewTrap s pd src count) :=
  trapIn_ite (trapIn_some rfl) (trapIn_ite (trapIn_some rfl) (trapIn_boundsTrap rfl s _ _))

theorem trapIn_pnewpTrap (s : State) (pd : PolyIdx) (src len : Word) :
    TrapIn (causesOf (.pnewp pd src len)) (pnewpTrap s pd src len) :=
  trapIn_ite (trapIn_some rfl) (trapIn_ite (trapIn_some rfl) (trapIn_ite (trapIn_some rfl) (trapIn_boundsTrap rfl s _ _)))

theorem trapIn_pextTrap (s : State) (pd : PolyIdx) (d : Word) (p : Poly) :
    TrapIn (causesOf (.pext pd d)) (pextTrap s p d.toNat) :=
  trapIn_ite (trapIn_some rfl) (trapIn_ite (trapIn_some rfl) (trapIn_ite trapIn_none (trapIn_coefTrap rfl _ p)))

theorem trapIn_pmulTrap (c : Cfg) (pd pa pb : PolyIdx) (d : Nat) : TrapIn (causesOf (.pmul pd pa pb)) (pmulTrap c d) :=
  trapIn_ite (trapIn_some rfl) (trapIn_rootTrap rfl c d)

/-! Causes of work on the job table -/

/-- A body or work that faults does so with a cause of the list. -/
def FaultsIn {α : Type} (cs : List Cause) (r : Except Trap α) : Prop := ∀ t, r = .error t → t.cause ∈ cs

section
variable {cs : List Cause}

theorem faultsIn_ok {α : Type} (a : α) : FaultsIn cs (.ok a) := nofun

theorem faultsIn_error {α : Type} {t : Trap} (h : cs.contains t.cause = true) : FaultsIn cs (.error t : Except Trap α) := by
  rintro _ ⟨⟩
  exact List.contains_iff_mem.1 h

theorem faultsIn_elim {α : Type} {o : Option Trap} (h : TrapIn cs o) (a : α) : FaultsIn cs (o.elim (.ok a) .error) := by
  cases o with
  | none => exact faultsIn_ok a
  | some t =>
    rintro _ ⟨⟩
    exact h t rfl

theorem faultsIn_bind {α β : Type} {r : Except Trap α} {f : α → Except Trap β} (h : FaultsIn cs r)
    (hf : ∀ a, r = .ok a → FaultsIn cs (f a)) : FaultsIn cs (r.bind f) := by
  cases r with
  | error t =>
    rintro _ ⟨⟩
    exact h t rfl
  | ok a => exact hf a rfl

variable {c : Cfg} {reduced : Bool} {id : Word}

/-- Transforms of Jobs ask for roots only: no slot listed is transformed twice. -/
theorem faultsIn_fftLeaves (hroot : cs.contains .rootOrder = true) : ∀ (js : List Nat) {w : JobWork}, js.Nodup →
    (∀ j ∈ js, ∃ e, w.slot j = some e ∧ e.kind = .job) → FaultsIn cs (fftLeaves c reduced js w)
  | [], w, _, _ => faultsIn_ok w
  | j :: js, w, hnodup, hjobs => by
    obtain ⟨hj, hnodup⟩ := List.nodup_cons.1 hnodup
    obtain ⟨e, he, hkind⟩ := hjobs j (by simp)
    refine faultsIn_bind ?_ fun w' hw' => faultsIn_fftLeaves hroot js hnodup fun k hk => ?_
    · rw [fftSlot_of_job he hkind]
      exact faultsIn_elim (trapIn_rootTrap hroot c _) _
    · obtain ⟨e', he', -, -, rfl⟩ := fftSlot_eq_ok hw'
      have hkj : k ≠ j := fun hkj => hj (hkj ▸ hk)
      rw [show ((w.put reduced j (jobTransform c e')).useRoots).slot k = _ from transformedWork_slot he' k, if_neg hkj]
      exact hjobs k (by simp [hk])

/-- A round merges mates, which are MergeJobs: it asks for a pair, for equal lengths, for room and for a root. -/
theorem faultsIn_mergeRounds : ∀ (n : Nat) (w : JobWork), FaultsIn (causesOf (.jrun id)) (mergeRounds c reduced id n w)
  | 0, w => faultsIn_ok w
  | n + 1, w => by
    by_cases hone : (mergeJobsOf w.jt id).length ≤ 1
    · rw [mergeRounds_of_le_one _ hone]
      exact faultsIn_ok w
    · cases hf : findPair (mergeJobsOf w.jt id) with
      | none =>
        rw [mergeRounds_of_no_pair _ (by omega) hf]
        exact faultsIn_error rfl
      | some p =>
        obtain ⟨a, b, -, -, -, -, -, hmerge⟩ := mergeSlots_of_mates (c := c) (findPair_eq_some_iff.1 hf).1
        rw [mergeRounds_of_pair _ hf, hmerge]
        exact faultsIn_bind (faultsIn_elim (trapIn_mergeTrap rfl rfl rfl c _ _ a b) _) fun w' _ => faultsIn_mergeRounds n w'

theorem faultsIn_runTree (w : JobWork) : FaultsIn (causesOf (.jrun id)) (runTree c reduced id w) := by
  refine faultsIn_bind (faultsIn_fftLeaves rfl _ ?_ fun j hj => ?_) fun w' _ => faultsIn_mergeRounds 64 w'
  · exact (List.pairwise_map.2 (slotsWhere_pairwise _ _)).imp fun h => Nat.ne_of_lt h
  · obtain ⟨⟨j, e⟩, he, rfl⟩ := List.mem_map.1 hj
    obtain ⟨hslot, hkind, -⟩ := mem_jobsOf.1 he
    exact ⟨e, hslot, hkind⟩

end

/-! `CSEQ` is left to completion -/

@[simp] theorem putElem_cseq (s : State) (r : RegIdx) (reduced : Bool) (v : U256) : (s.putElem r reduced v).cseq = s.cseq := by
  cases reduced <;> rfl

@[simp] theorem reportRun_cseq (s : State) (id : Word) : (reportRun s id).cseq = s.cseq := by
  unfold reportRun
  split <;> rfl

@[simp] theorem forceCoef_cseq (s : State) (i : PolyIdx) (reduced : Bool) : (s.forceCoef i reduced).cseq = s.cseq := by
  unfold State.forceCoef
  split
  · rfl
  · split <;> rfl

@[simp] theorem forcePoint_cseq (s : State) (i : PolyIdx) (reduced : Bool) : (s.forcePoint i reduced).cseq = s.cseq := by
  unfold State.forcePoint
  split
  · rfl
  · split <;> rfl

@[simp] theorem extend_cseq (s : State) (i : PolyIdx) (d : Nat) (reduced : Bool) : (s.extend i d reduced).cseq = s.cseq := by
  unfold State.extend
  split
  · rfl
  · split <;> rfl

@[simp] theorem paddEffect_cseq (s : State) (pd pa pb : PolyIdx) (p q : Poly) : (paddEffect s pd pa pb p q).cseq = s.cseq := by
  simp [paddEffect, State.newCoef]

@[simp] theorem pmulEffect_cseq (s : State) (pd pa pb : PolyIdx) (p q : Poly) : (pmulEffect s pd pa pb p q).cseq = s.cseq := by
  simp [pmulEffect, State.newPoint]

/-! Causes of bodies -/

/-- A body of the command `i` that leaves `CSEQ` to completion, by which its end and its fault are told apart, and faults with a
cause of `i`'s row only. -/
structure Listed (i : Instr) (s : State) (r : Except Trap State) : Prop where
  cseq : Ensures r fun u => u.cseq = s.cseq
  causes : FaultsIn (causesOf i) r

section
variable {i : Instr} {s : State}

theorem listed_ok {u : State} (h : u.cseq = s.cseq) : Listed i s (.ok u) := ⟨ensures_ok h, faultsIn_ok u⟩

theorem listed_error {t : Trap} (h : (causesOf i).contains t.cause = true) : Listed i s (.error t) :=
  ⟨ensures_error t, faultsIn_error h⟩

theorem listed_guarded {o : Option Trap} {u : State} (ho : TrapIn (causesOf i) o) (h : u.cseq = s.cseq) :
    Listed i s (guarded o u) :=
  ⟨ensures_guarded fun _ => h, fun t ht => ho t (guarded_eq_error.1 ht)⟩

theorem listed_onPoly (hi : (causesOf i).contains .polyState = true) {pa : PolyIdx} {body : Poly → Except Trap State}
    (h : ∀ p, Listed i s (body p)) : Listed i s (onPoly s pa body) := by
  rcases onPoly_cases s pa body with ⟨p, -, hb⟩ | ⟨-, hb⟩ <;> rw [hb]
  · exact h p
  · exact listed_error hi

theorem listed_map {r : Except Trap JobWork} {f : JobWork → State} (hr : FaultsIn (causesOf i) r)
    (h : ∀ w, (f w).cseq = s.cseq) : Listed i s (r.map f) := by
  cases r with
  | error t =>
    refine ⟨ensures_error t, ?_⟩
    rintro _ ⟨⟩
    exact hr t rfl
  | ok w => exact listed_ok (h w)

end

theorem jobKind_cases (k : JobKind) : k = .job ∨ k = .mergeJob := by
  cases k
  · exact .inl rfl
  · exact .inr rfl

/-- A slot holds an entry of one kind, or any entry it holds is of the other. -/
theorem getJob_kind_cases (s : State) (j : JobIdx) {k k' : JobKind} (hkinds : ∀ x : JobKind, x = k ∨ x = k') :
    (∃ e, s.getJob j = some e ∧ e.kind = k) ∨ ∀ e, s.getJob j = some e → e.kind = k' := by
  by_cases h : ∃ e, s.getJob j = some e ∧ e.kind = k
  · exact .inl h
  · exact .inr fun e he => (hkinds e.kind).resolve_left fun hk => h ⟨e, he, hk⟩

/-- Every command settles a body that takes the listed faults only. -/
theorem exec_listed (i : Instr) (s : State) : ∃ r, exec i s = settle s r ∧ Listed i s r := by
  cases i with
  | nop | ldi | rdw | uclr | umov | uadd | usub | uneg | umul256 | umul512 | ueq | fzero | fone | frand | frands | feq | fisz
  | jfree | pfree =>
    refine ⟨_, rfl, listed_ok ?_⟩
    rfl
  | monpro | monadd | monsub | tomont | frommont | fsqr | fneg | finv | ftocan =>
    exact ⟨_, rfl, listed_ok (putElem_cseq _ _ _ _)⟩
  | jqry | pqry =>
    refine ⟨_, rfl, listed_ok ?_⟩
    split <;> rfl
  | lde | ste => exact ⟨_, rfl, listed_guarded (trapIn_boundsTrap rfl _ _ _) rfl⟩
  | froot => exact ⟨_, rfl, listed_guarded (trapIn_ite (trapIn_some rfl) trapIn_none) rfl⟩
  | ffromcan =>
    refine ⟨_, rfl, ?_⟩
    split
    · exact listed_ok rfl
    · exact listed_error rfl
  | fftrec | fftr2 | ifft => exact ⟨_, rfl, listed_guarded (trapIn_transformTrap rfl rfl rfl _ _ _ _ trapIn_none) rfl⟩
  | fft4 =>
    refine ⟨_, rfl, listed_guarded (trapIn_transformTrap rfl rfl rfl _ _ _ _ ?_) rfl⟩
    exact trapIn_ite trapIn_none (trapIn_some rfl)
  | jnew => exact ⟨_, rfl, listed_guarded (trapIn_jnewTrap _ _ _ _ _) rfl⟩
  | jfork jd js target =>
    rcases getJob_kind_cases s js jobKind_cases with ⟨e, he, hkind⟩ | hno
    · exact ⟨_, exec_jfork_of_job he hkind jd target, listed_guarded (trapIn_jforkTrap _ _ _ _ _) rfl⟩
    · exact ⟨.error _, exec_jfork_of_no_job hno jd target, listed_error rfl⟩
  | jfft js =>
    rcases getJob_kind_cases s js jobKind_cases with ⟨e, he, hkind⟩ | hno
    · exact ⟨_, exec_jfft_of_job he hkind, listed_guarded (trapIn_rootTrap rfl _ _) rfl⟩
    · exact ⟨.error _, exec_jfft_of_no_job hno, listed_error rfl⟩
  | jmerge js jo =>
    rcases getJob_kind_cases s js fun k => (jobKind_cases k).symm with ⟨a, ha, hka⟩ | hno
    · rcases getJob_kind_cases s jo fun k => (jobKind_cases k).symm with ⟨b, hb, hkb⟩ | hno
      · exact ⟨_, exec_jmerge_of_mergeJobs ha hka hb hkb, listed_guarded (trapIn_mergeTrap rfl rfl rfl _ _ _ _ _) rfl⟩
      · exact ⟨.error _, exec_jmerge_of_no_other ha hka hno, listed_error rfl⟩
    · exact ⟨.error _, exec_jmerge_of_no_self hno jo, listed_error rfl⟩
  | jfind =>
    refine ⟨_, rfl, ?_⟩
    split
    · exact listed_ok rfl
    · split
      · exact listed_error rfl
      · exact listed_ok rfl
  | jrun id => exact ⟨_, rfl, listed_map (faultsIn_runTree _) fun w => reportRun_cseq _ id⟩
  | jst js dst =>
    cases he : s.getJob js with
    | none => exact ⟨.error _, exec_jst_of_empty he, listed_error rfl⟩
    | some e => exact ⟨_, exec_jst_of_entry he, listed_guarded (trapIn_boundsTrap rfl _ _ _) rfl⟩
  | pnew => exact ⟨_, rfl, listed_guarded (trapIn_pnewTrap _ _ _ _) rfl⟩
  | pnewp => exact ⟨_, rfl, listed_guarded (trapIn_pnewpTrap _ _ _ _) rfl⟩
  | pext => exact ⟨_, rfl, listed_onPoly rfl fun p => listed_guarded (trapIn_pextTrap _ _ _ p) (extend_cseq _ _ _ _)⟩
  | padd =>
    exact ⟨_, rfl, listed_onPoly rfl fun p => listed_onPoly rfl fun q => listed_guarded
      (trapIn_or (trapIn_destTrap rfl _ _ _ _) (trapIn_or (trapIn_coefTrap rfl _ p) (trapIn_coefTrap rfl _ q)))
      (paddEffect_cseq _ _ _ _ p q)⟩
  | pmul =>
    exact ⟨_, rfl, listed_onPoly rfl fun p => listed_onPoly rfl fun q => listed_guarded
      (trapIn_or (trapIn_destTrap rfl _ _ _ _) (trapIn_pmulTrap _ _ _ _ _)) (pmulEffect_cseq _ _ _ _ p q)⟩
  | peval =>
    exact ⟨_, rfl, listed_onPoly rfl fun p => listed_guarded (trapIn_coefTrap rfl _ p)
      ((putElem_cseq _ _ _ _).trans (forceCoef_cseq _ _ _))⟩
  | pcoef => exact ⟨_, rfl, listed_onPoly rfl fun p => listed_guarded (trapIn_coefTrap rfl _ p) (forceCoef_cseq _ _ _)⟩
  | ppoint => exact ⟨_, rfl, listed_onPoly rfl fun p => listed_guarded (trapIn_pointTrap rfl _ p) (forcePoint_cseq _ _ _)⟩
  | pstc =>
    exact ⟨_, rfl, listed_onPoly rfl fun p => listed_guarded
      (trapIn_or (trapIn_coefTrap rfl _ p) (trapIn_boundsTrap rfl _ _ _)) (forceCoef_cseq _ _ _)⟩
  | pstp =>
    exact ⟨_, rfl, listed_onPoly rfl fun p => listed_guarded
      (trapIn_or (trapIn_pointTrap rfl _ p) (trapIn_boundsTrap rfl _ _ _)) (forcePoint_cseq _ _ _)⟩

/-- What a command answers, with the cause of its fault: a completed state counts in `CSEQ`, a fault does not. -/
theorem exec_listed_cases {i : Instr} {s t : State} (h : exec i s = .next t) :
    (∃ u, Confined i s u ∧ t = complete u) ∨ ∃ tr, tr.cause ∈ causesOf i ∧ t = raise tr s := by
  rcases exec_cases h with hdone | ⟨tr, htr⟩
  · exact .inl hdone
  · right
    obtain ⟨r, hr, hlisted⟩ := exec_listed i s
    rcases settle_cases (hr.symm.trans h) with ⟨u, hu, hcomplete⟩ | ⟨tr', htr', hraise⟩
    · have hseq : s.cseq = s.cseq + 1 := calc
        s.cseq = t.cseq := by rw [htr, raise_cseq]
        _ = s.cseq + 1 := by rw [hcomplete, complete_cseq, hlisted.cseq u hu]
      exact absurd hseq (by bv_omega)
    · exact ⟨tr', hlisted.causes tr' htr', hraise⟩

/-! The obligations -/

/-- No row names `WIDTH` or `MODULUS` as a command's fault (60_exceptions.md R313, R314). -/
theorem width_modulus_notMem_causesOf (i : Instr) : .width ∉ causesOf i ∧ .modulus ∉ causesOf i := by
  cases i <;> simp [causesOf]

/-- Settles O15: a completed body left the control fields alone, and entering the fault state is the whole change of a fault. -/
theorem commandsCompleteOrFaultPrecisely : Obligations.CommandsCompleteOrFaultPrecisely := by
  intro i s
  obtain ⟨r, hr, -⟩ := exec_listed i s
  obtain ⟨t, ht⟩ := settle_next s r
  have hexec : exec i s = .next t := hr.trans ht
  refine ⟨t, hexec, ?_⟩
  rcases exec_listed_cases hexec with ⟨u, hu, rfl⟩ | ⟨tr, hcause, rfl⟩
  · obtain ⟨hcfg, hcseq, -, hfault, hrec, h0, h1, h2, hcurrent, hhost, hrdata, hepoch⟩ := Control.mk.inj hu.control
    exact .inl ⟨congrArg (· + 1) hcseq, rfl, hfault, hrec, h0, h1, h2, hcurrent, hhost, hrdata, hepoch, hcfg⟩
  · obtain ⟨hwidth, hmodulus⟩ := width_modulus_notMem_causesOf i
    exact .inr ⟨tr, fun h => hwidth (h ▸ hcause), fun h => hmodulus (h ▸ hcause), rfl⟩

/-- Settles O16: completion sets no `FAULT`, so the state is that of a listed fault. -/
theorem faultsAreTheListedOnes : Obligations.FaultsAreTheListedOnes := by
  intro i s t h0 hs h1
  rcases exec_listed_cases hs with ⟨u, hu, rfl⟩ | ⟨tr, hcause, rfl⟩
  · have hfault : u.fault = s.fault := congrArg Control.fault hu.control
    rw [complete_fault, hfault, h0] at h1
    cases h1
  · exact ⟨tr.cause, hcause, rfl⟩

end Sys2Proof.Proofs
end

section
/-! Fixed command words (96_test_vectors_families.md V12, V14): a legal word is the encoding of its command, so O1 decodes it; an
illegal one fails one of the decoder's checks (30_encoding.md R107). -/

namespace Sys2Proof.Proofs

/-! Legal words -/

theorem decode_of_encode_eq {cmd : Command} {i : Instr} (hi : i.wf = true) (h : encode i = cmd) : decode cmd = .ok i :=
  h ▸ decodeInvertsEncode i hi

/-! Illegal words, by the first check of R107 that fails -/

theorem decode_eq_unassignedOpcode {cmd : Command} (hmap : opcodeMap (Fields.ofCommand cmd) = none) :
    decode cmd = .error .unassignedOpcode := by
  simp only [decode, hmap]

section
variable {cmd : Command} {m : Format} {i : Instr} (hmap : opcodeMap (Fields.ofCommand cmd) = some (m, i))
include hmap

theorem decode_eq_accept : decode cmd = m.accept (Fields.ofCommand cmd) i := by
  simp only [decode, hmap]

theorem decode_eq_unusedField (hzero : m.unusedZero (Fields.ofCommand cmd) = false) : decode cmd = .error .unusedField := by
  simp [decode_eq_accept hmap, Format.accept, hzero]

theorem decode_eq_indexRange (hzero : m.unusedZero (Fields.ofCommand cmd) = true)
    (hrange : m.indexInRange (Fields.ofCommand cmd) = false) : decode cmd = .error .indexRange := by
  simp [decode_eq_accept hmap, Format.accept, hzero, hrange]

end

/-- `UADD` with destination 16: the fields are those of its format, and no element register has that index (R103). -/
theorem decode_uadd_register_sixteen : decode (joinWords 0x02011012 0 0 0) = .error .indexRange :=
  decode_eq_indexRange (m := fmtR3) (i := .uadd 16 1 2) (by decide) (by decide) (by decide)

/-- `UMOV` with a third index field, which its format leaves unused (R106). -/
theorem decode_umov_third_index : decode (joinWords 0x03010211 0 0 0) = .error .unusedField :=
  decode_eq_unusedField (m := fmtR2) (i := .umov 2 1) (by decide) (by decide)

/-- Settles O4: each legal word is its command's encoding, each illegal one fails the check named. -/
theorem vectorWordsDecode : Obligations.VectorWordsDecode := by
  refine ⟨?_, ?_, ?_, ?_, ?_, ?_, ?_, ?_, decode_uadd_register_sixteen, decode_umov_third_index,
    decode_eq_unassignedOpcode (by decide)⟩
  all_goals exact decode_of_encode_eq (by decide) (by decide)

end Sys2Proof.Proofs
end
